-- ==== Sys2Proof/Word.lean ====
section
/-! DEFINITION. The widths of rule R11 (bytes, 16-bit values, 64-bit command words), the two compare units and a pair
indexed by them (rules R11, R14, R16). -/

namespace Sys2Proof

/-- A pin identifier, a pulse count or a byte of the register space. -/
abbrev Byte := BitVec 8

/-- A pulse width, a compare value, the counter or the top of count (rule R11). -/
abbrev Half := BitVec 16

/-- A command word (rule R80). -/
abbrev CommandWord := BitVec 64

/-- The compare units; index 0 is A and index 1 is B (rule R14). -/
inductive CompareUnit where
  | a
  | b
  deriving DecidableEq, Repr, Inhabited

/-- The unit that `u` is not. -/
def CompareUnit.other : CompareUnit → CompareUnit
  | .a => .b
  | .b => .a

/-- One value for each compare unit: `slot[u]`, `COM[u]`, `OCIE[u]` and so on (rule R14). -/
structure PerUnit (α : Type) where
  a : α
  b : α
  deriving DecidableEq, Repr

/-- `p[u]`. -/
def PerUnit.get {α : Type} (p : PerUnit α) : CompareUnit → α
  | .a => p.a
  | .b => p.b

/-- `p` with `v` at `u`: the `p[u] <- v` of rule R14. -/
def PerUnit.set {α : Type} (p : PerUnit α) (u : CompareUnit) (v : α) : PerUnit α :=
  match u with
  | .a => { p with a := v }
  | .b => { p with b := v }

/-- The same value for both units. -/
def PerUnit.both {α : Type} (v : α) : PerUnit α := ⟨v, v⟩

end Sys2Proof
end

