-- ==== Sys2Proof/Config.lean ====
section
/-! DEFINITION. The block's fixed constants (rule R9), its parameters (rule R10), the names of who may step next (rule R8)
and the model's free values, which have no body. -/

namespace Sys2Proof

/-! ### Fixed constants (rule R9) -/

/-- Compare units and registry slots. -/
def Config.nUnits : Nat := 2
/-- Supported physical pins. -/
def Config.nPins : Nat := 2
/-- `PULSE_RATE`: compare-match events of a channel before its automatic disconnect. -/
def Config.pulseRate : Nat := 50
/-- `TOP_VALUE`, in timer ticks. -/
def Config.topValue : Half := 20000
/-- `PRESCALE`, the timer clock prescaler's divisor. -/
def Config.prescale : Nat := 8
/-- `DEFAULT_MIN_PW`, microseconds. -/
def Config.defaultMinPW : Half := 1000
/-- `DEFAULT_MAX_PW`, microseconds. -/
def Config.defaultMaxPW : Half := 2500
/-- `ANGLE_MIN`, degrees. -/
def Config.angleMin : Int := 0
/-- `ANGLE_MAX`, degrees. -/
def Config.angleMax : Int := 180
/-- `PERIOD_HZ`, the nominal PWM frequency. -/
def Config.periodHz : Nat := 50
/-- `WGM` of a configured timer: fast PWM with the period set by `TOP` (rule R29). -/
def Config.wgmFastPwm : BitVec 4 := 0b1110#4
/-- `CS` of a configured timer: the input clock divided by 8 (rule R30). -/
def Config.csDivideBy8 : BitVec 3 := 0b010#3
/-- `COM` of a connected unit: low on compare match, high at period start (rule R34). -/
def Config.comConnected : BitVec 2 := 0b10#2
/-- `COM` of a disconnected unit (rule R34). -/
def Config.comDisconnected : BitVec 2 := 0b00#2

/-! ### Parameters (rule R10) -/

/-- `OCR_UPDATE`: when a written compare value takes effect (rule R37). -/
inductive OcrUpdate where
  | atBottom
  | immediate
  deriving DecidableEq, Repr

/-- `REG_ADDR`: the address of each register of the register space, and `REG_ADDR_WIDTH`; the defaults are the informative
ones of rules R60 and R62. -/
structure RegMap where
  pinlvl : Nat := 0x23
  pindir : Nat := 0x24
  iflg   : Nat := 0x36
  status : Nat := 0x5F
  imsk   : Nat := 0x6F
  ctrlA  : Nat := 0x80
  ctrlB  : Nat := 0x81
  cnt    : Nat := 0x84
  top    : Nat := 0x86
  ocrA   : Nat := 0x88
  ocrB   : Nat := 0x8A
  width  : Nat := 16
  deriving DecidableEq, Repr

/-- The open or decided parameters of rule R10, with its defaults. They stand in `State.cfg`, so a statement about every
state holds for every value of them; no step writes them (log 1). -/
structure Config where
  /-- `PIN_A` (decision D4: any pair of distinct pins). -/
  pinA : Byte := 9
  /-- `PIN_B`. -/
  pinB : Byte := 10
  ocrUpdate : OcrUpdate := .atBottom
  /-- `CONNECT_CLEARS_PENDING` (rule R120). -/
  connectClearsPending : Bool := false
  /-- `TOP_INCLUSIVE` (rule R150). -/
  topInclusive : Bool := false
  /-- `REG_ADDR` and `REG_ADDR_WIDTH` (rules R60, R62). -/
  regs : RegMap := {}
  /-- `STRICT_LATENCY` (rule R157). -/
  strictLatency : Bool := true
  /-- `WRITE_RESETS_WINDOW` (rule R113). -/
  writeResetsWindow : Bool := false
  /-- `INJECT_DISPATCH`: may the HOST issue DISPATCH (rule R87). -/
  injectDispatch : Bool := false
  /-- `F_CPU` in hertz (rule R12); no rule depends on it. -/
  fCpu : Nat := 8000000
  deriving DecidableEq, Repr

/-- `F_TIMER`, the timer's tick frequency in hertz: the input clock after the prescaler (rule R12). -/
def Config.fTimer (c : Config) : Nat := c.fCpu / Config.prescale

/-! ### Who steps next (rules R8, R170) -/

/-- The three agents of rule R8, and the external reset of rule R170. -/
inductive Turn where
  | host
  | timer
  | interruptUnit
  | reset
  deriving DecidableEq, Repr, Inhabited

/-! ### Free values -/

/-- Whose turn it is where `State.turns` does not say: rule R8 leaves the interleaving unconstrained (log 2). -/
opaque Config.scheduler : Nat → Turn

/-- The level a real target's pin drives where 93_implementation_defined.md X10, X11 and X19 say "any value" (log 15). -/
opaque Config.freePin : CompareUnit → Nat → Bool

end Sys2Proof
end

