-- ==== Sys2Proof/Syntax.lean ====
section
/-! DEFINITION. The commands, one constructor a row of spec/opcode_table.json (rule R84), with the operands of rule R83. -/

namespace Sys2Proof

/-- The four commands of rule R84. CONNECT, DISCONNECT, TICK and DELIVER have no encoding and no constructor. -/
inductive Instr where
  /-- `ATTACH pin` (rule R101). -/
  | attach (pin : Byte)
  /-- `ATTACH_MINMAX pin, minPW, maxPW` (rule R102). -/
  | attachMinmax (pin : Byte) (minPW maxPW : Half)
  /-- `WRITE_ANGLE pin, angle` (rule R110); the angle is a signed count of degrees, `sext_32(X)` (rule R83). -/
  | writeAngle (pin : Byte) (angle : Int)
  /-- `DISPATCH u` (rule R130). -/
  | dispatch (unit : CompareUnit)
  deriving DecidableEq, Repr

end Sys2Proof
end

