-- ==== Sys2Proof/WellFormed.lean ====
section
/-! DEFINITION. Which commands the encoding can express: the angle is a 16-bit two's-complement number (rules R11, R83).
The other operands cannot leave their ranges, since their types are the fields' widths. -/

namespace Sys2Proof

/-- The range of rule R83: -32768 to 32767. -/
def angleInRange (angle : Int) : Bool := decide (-32768 ≤ angle) && decide (angle ≤ 32767)

/-- The check on a command's operands. -/
def Instr.wf : Instr → Bool
  | .attach _ => true
  | .attachMinmax _ _ _ => true
  | .writeAngle _ angle => angleInRange angle
  | .dispatch _ => true

/-- A command that some command word encodes. -/
abbrev Instr.WellFormed (i : Instr) : Prop := i.wf = true

end Sys2Proof
end

