-- ==== Sys2Proof/Decode.lean ====
section
/-! DEFINITION. The decoder of rule R85, total on every 64-bit word and on any list of bytes, rejecting by name (rule R86);
then the encoder, from the formats of rule R82; the opcode table's rows; and the host's `decodeTableWord`. -/

namespace Sys2Proof

/-! ### Fields (rule R81) -/

def opField (w : CommandWord) : Byte := w.extractLsb' 56 8
def pField (w : CommandWord) : Byte := w.extractLsb' 48 8
def xField (w : CommandWord) : Half := w.extractLsb' 32 16
def yField (w : CommandWord) : Half := w.extractLsb' 16 16
def zField (w : CommandWord) : Half := w.extractLsb' 0 16

/-- The opcodes of rule R84. -/
def opAttach : Byte := 0x01
def opAttachMinmax : Byte := 0x02
def opWriteAngle : Byte := 0x03
def opDispatch : Byte := 0x10

/-- Why a word is ILLEGAL (rule R86), and, for a list of bytes, that it ends inside a word (rule R80). -/
inductive Illegal where
  /-- `Z` must be zero in every format. -/
  | zNotZero
  /-- `OP` is none of 0x01, 0x02, 0x03 and 0x10. -/
  | undefinedOpcode
  /-- `X` must be zero in ATTACH and DISPATCH. -/
  | xNotZero
  /-- `Y` must be zero in ATTACH, WRITE_ANGLE and DISPATCH. -/
  | yNotZero
  /-- `P[7:1]` must be zero in DISPATCH. -/
  | unitAboveOne
  /-- Fewer than the eight bytes of a command word. -/
  | incomplete
  deriving DecidableEq, Repr

/-- The unit that bit `P[0]` names (rule R83). -/
def unitOfBit : Bool → CompareUnit
  | false => .a
  | true => .b

/-- The signed value of a 16-bit field: `sext_32(X)` read as an integer (rule R83). -/
def signedHalf (x : Half) : Int := x.toInt

/-- The decoder (rule R85). -/
def decode (w : CommandWord) : Except Illegal Instr :=
  let op := opField w
  let p := pField w
  let x := xField w
  let y := yField w
  if zField w ≠ 0 then .error .zNotZero
  else if op = opAttach then
    if x ≠ 0 then .error .xNotZero
    else if y ≠ 0 then .error .yNotZero
    else .ok (.attach p)
  else if op = opAttachMinmax then .ok (.attachMinmax p x y)
  else if op = opWriteAngle then
    if y ≠ 0 then .error .yNotZero
    else .ok (.writeAngle p (signedHalf x))
  else if op = opDispatch then
    if p.extractLsb' 1 7 ≠ 0 then .error .unitAboveOne
    else if x ≠ 0 then .error .xNotZero
    else if y ≠ 0 then .error .yNotZero
    else .ok (.dispatch (unitOfBit (p.getLsbD 0)))
  else .error .undefinedOpcode

/-! ### The encoder (rules R81, R82) -/

/-- A command word from its fields, `Z` zero. -/
def wordOf (op p : Byte) (x y : Half) : CommandWord := op ++ p ++ x ++ y ++ 0#16

/-- `P` of a DISPATCH. -/
def unitField : CompareUnit → Byte
  | .a => 0
  | .b => 1

/-- The word of a well-formed command. -/
def encode : Instr → CommandWord
  | .attach pin => wordOf opAttach pin 0 0
  | .attachMinmax pin minPW maxPW => wordOf opAttachMinmax pin minPW maxPW
  | .writeAngle pin angle => wordOf opWriteAngle pin (BitVec.ofInt 16 angle) 0
  | .dispatch u => wordOf opDispatch (unitField u) 0 0

/-! ### Serialisation (rule R80) -/

/-- Byte `k` of a word: bits `8k+7 : 8k`. -/
def byteOfWord (w : CommandWord) (k : Nat) : Byte := w.extractLsb' (8 * k) 8

/-- A word as eight bytes, byte 0 first. -/
def bytesOfWord (w : CommandWord) : List Byte :=
  [byteOfWord w 0, byteOfWord w 1, byteOfWord w 2, byteOfWord w 3,
   byteOfWord w 4, byteOfWord w 5, byteOfWord w 6, byteOfWord w 7]

/-- The word that the first eight bytes serialise, and the bytes after them. -/
def wordOfBytes : List Byte → Option (CommandWord × List Byte)
  | b0 :: b1 :: b2 :: b3 :: b4 :: b5 :: b6 :: b7 :: rest =>
    some (b7 ++ b6 ++ b5 ++ b4 ++ b3 ++ b2 ++ b1 ++ b0, rest)
  | _ => none

/-- The decoder on a list of bytes: the command that the first eight serialise, and the bytes of the next (rule R88). -/
def decodeBytes (bs : List Byte) : Except Illegal (Instr × List Byte) :=
  match wordOfBytes bs with
  | none => .error .incomplete
  | some (w, rest) =>
    match decode w with
    | .error e => .error e
    | .ok i => .ok (i, rest)

/-! ### The opcode table (spec/opcode_table.json) -/

/-- A row: the bits that are fixed, and their values. -/
structure OpcodeRow where
  mask : CommandWord
  pattern : CommandWord
  deriving DecidableEq, Repr

def rowAttach : OpcodeRow := ⟨0xFF00FFFFFFFFFFFF, 0x0100000000000000⟩
def rowAttachMinmax : OpcodeRow := ⟨0xFF0000000000FFFF, 0x0200000000000000⟩
def rowWriteAngle : OpcodeRow := ⟨0xFF000000FFFFFFFF, 0x0300000000000000⟩
def rowDispatch : OpcodeRow := ⟨0xFFFEFFFFFFFFFFFF, 0x1000000000000000⟩

def opcodeTable : List OpcodeRow := [rowAttach, rowAttachMinmax, rowWriteAngle, rowDispatch]

/-- The word has the row's fixed bits. -/
def OpcodeRow.covers (r : OpcodeRow) (w : CommandWord) : Bool := w &&& r.mask == r.pattern

/-- Two rows that no word can match together: they fix some bit differently. -/
def OpcodeRow.disjoint (r t : OpcodeRow) : Bool := (r.pattern ^^^ t.pattern) &&& r.mask &&& t.mask != 0

/-- The row of a command. -/
def Instr.row : Instr → OpcodeRow
  | .attach _ => rowAttach
  | .attachMinmax _ _ _ => rowAttachMinmax
  | .writeAngle _ _ => rowWriteAngle
  | .dispatch _ => rowDispatch

/-- What the decoder reads from the `nbits` low bits of `w`, every bit above them zero; bits above a command word's 64
make it no command word (rule R80). -/
def decodeTableWord (nbits w : Nat) : Option Instr :=
  let v := w % 2 ^ nbits
  if v < 2 ^ 64 then
    match decode (BitVec.ofNat 64 v) with
    | .ok i => some i
    | .error _ => none
  else none

end Sys2Proof
end

