-- ==== Sys2Proof/Machine/State.lean ====
section
/-! DEFINITION. The state tuple of rule R22, field by field, with the model's own fields beside it; the reasons a step can
stop (the spec gives it none, rule R142); and the state after reset (rule R51). -/

namespace Sys2Proof.Machine

/-- A channel record (rule R24). -/
structure Channel where
  pin : Byte
  minPW : Half
  maxPW : Half
  pulseCount : Byte
  deriving DecidableEq, Repr

/-- `DIR[p]` (rule R40). -/
inductive Direction where
  | input
  | output
  deriving DecidableEq, Repr

/-- `inflight = (WRITE_ANGLE, u, w)`: a WRITE_ANGLE between its two halves (rule R50 (c)). WRITE_ANGLE is the only command
with a step boundary. -/
structure Inflight where
  unit : CompareUnit
  width : Half
  deriving DecidableEq, Repr

/-- The result codes of rule R140, by name; `resultByte` gives their numbers. -/
inductive ResultCode where
  | ok
  | ignoredBadPin
  | ignoredOccupied
  | ignoredNotAttached
  | ignoredNoChannel
  | illegal
  deriving DecidableEq, Repr

/-- The machine stops with a fault: never. The block has no exception, trap or fault state (rule R142), so this type has no
constructor; no step can raise a fault, which is safe. -/
inductive Fault where
  deriving DecidableEq, Repr

/-- What the model gives no meaning. -/
inductive Refusal where
  /-- An instruction without a meaning in this model, by its table name: raised by no arm of `exec` now; safe. -/
  | notModelled (mnemonic : String)
  /-- A `MemRead` or `MemWrite` that rules R64 and R66 refuse: raised by `memRead` and `memWrite`, which no step calls;
  safe. -/
  | registerAccess (address bytes : Nat)
  deriving DecidableEq, Repr

/-- The state. The fields to `inflight` are rule R22's tuple (`hostStatus` is the rest of the STATUS byte, rule R46); those
after it are the model's own. -/
@[ext]
structure State where
  /-- The channel registry (rule R23). -/
  slot : PerUnit (Option Channel)
  /-- The timer counter (rule R32). -/
  cnt : Half
  /-- The top-of-count register (rule R31). -/
  top : Half
  /-- The waveform generation mode (rule R29). -/
  wgm : BitVec 4
  /-- The clock select (rule R30). -/
  cs : BitVec 3
  /-- The compare-output modes (rule R34). -/
  com : PerUnit (BitVec 2)
  /-- The compare-match interrupt enables (rule R35). -/
  ocie : PerUnit Bool
  /-- The compare-match pending flags (rule R36). -/
  ocf : PerUnit Bool
  /-- The compare registers (rule R37). -/
  ocr : PerUnit Half
  /-- The compare values in force (rule R37). -/
  ocrAct : PerUnit Half
  /-- `I`, the global interrupt-enable flag: STATUS bit 7 (rules R39, R46). -/
  iflag : Bool
  /-- STATUS bits 6:0, the host processor's; no rule of the block writes them (rule R46, log 9). -/
  hostStatus : BitVec 7
  /-- The pins' directions (rule R40). -/
  dir : PerUnit Direction
  /-- The levels the pins drive (rule R40). -/
  level : PerUnit Bool
  /-- A WRITE_ANGLE between its halves (rule R50 (c)). -/
  inflight : Option Inflight
  /-- The parameters of rule R10 (log 1). -/
  cfg : Config
  /-- The code that the last command returned to the HOST; none while a WRITE_ANGLE is in flight (rule R140, log 4). -/
  result : Option ResultCode
  /-- The command words the HOST has still to issue, the next first (rule R21, log 3). -/
  commands : List CommandWord
  /-- Who steps next, the first first; past the end `Config.scheduler` says (rule R8, log 2). -/
  turns : List Turn
  /-- The unit was connected after the last period start (93_implementation_defined.md X19, log 15). -/
  levelOpen : PerUnit Bool
  /-- The index of the next free value; every step advances it (log 2, log 15). -/
  freeIndex : Nat
  deriving DecidableEq, Repr

/-- The state after reset: rule R51, and for the model's own fields the values of the log (1 to 4, 9, 15). -/
def State.reset : State where
  slot := .both none
  cnt := 0
  top := 0
  wgm := 0b0000#4
  cs := 0b000#3
  com := .both 0b00#2
  ocie := .both false
  ocf := .both false
  ocr := .both 0
  ocrAct := .both 0
  iflag := false
  hostStatus := 0
  dir := .both .input
  level := .both false
  inflight := none
  cfg := {}
  result := none
  commands := []
  turns := []
  levelOpen := .both false
  freeIndex := 0

end Sys2Proof.Machine
end

