-- ==== Sys2Proof/Machine/Ops.lean ====
section
/-! DEFINITION. The named writes of single fields (rule R14), interrupt entry and return (rules R153, R154), the reply to the
HOST (rule R140), the external reset (rule R170) and what a pin shows (rule R40). -/

namespace Sys2Proof.Machine

/-! ### Writes of one field (rule R14: `f <- v`) -/

def setSlot (u : CompareUnit) (c : Channel) (s : State) : State := { s with slot := s.slot.set u (some c) }
def setCnt (v : Half) (s : State) : State := { s with cnt := v }
def setTop (v : Half) (s : State) : State := { s with top := v }
def setWgm (v : BitVec 4) (s : State) : State := { s with wgm := v }
def setCs (v : BitVec 3) (s : State) : State := { s with cs := v }
def setCom (u : CompareUnit) (v : BitVec 2) (s : State) : State := { s with com := s.com.set u v }
def setOcie (u : CompareUnit) (v : Bool) (s : State) : State := { s with ocie := s.ocie.set u v }
def setOcf (u : CompareUnit) (v : Bool) (s : State) : State := { s with ocf := s.ocf.set u v }
def setOcrAct (u : CompareUnit) (v : Half) (s : State) : State := { s with ocrAct := s.ocrAct.set u v }
def setIflag (v : Bool) (s : State) : State := { s with iflag := v }
def setHostStatus (v : BitVec 7) (s : State) : State := { s with hostStatus := v }
def setDir (u : CompareUnit) (d : Direction) (s : State) : State := { s with dir := s.dir.set u d }
def setLevel (u : CompareUnit) (v : Bool) (s : State) : State := { s with level := s.level.set u v }
def setInflight (f : Option Inflight) (s : State) : State := { s with inflight := f }
def setResult (r : Option ResultCode) (s : State) : State := { s with result := r }
def setLevelOpen (u : CompareUnit) (v : Bool) (s : State) : State := { s with levelOpen := s.levelOpen.set u v }

/-- `OCR[u] <- w`, and `OCRact[u] <- w` with it when `OCR_UPDATE = IMMEDIATE` (rules R37, R67). -/
def setOcr (u : CompareUnit) (w : Half) (s : State) : State :=
  { s with
    ocr := s.ocr.set u w
    ocrAct := bif s.cfg.ocrUpdate == .immediate then s.ocrAct.set u w else s.ocrAct }

/-- `slot[u].pulseCount <- v`, on a filled slot. -/
def setPulseCount (u : CompareUnit) (v : Byte) (s : State) : State :=
  { s with slot := s.slot.set u ((s.slot.get u).map fun c => { c with pulseCount := v }) }

/-! ### Results (rule R140) -/

/-- The 8-bit codes. -/
def resultByte : ResultCode → Byte
  | .ok => 0x00
  | .ignoredBadPin => 0x01
  | .ignoredOccupied => 0x02
  | .ignoredNotAttached => 0x03
  | .ignoredNoChannel => 0x04
  | .illegal => 0xFF

/-- `return <ResultCode>` (rule R14). -/
def reply (r : ResultCode) (s : State) : State := setResult (some r) s

/-! ### Critical sections, interrupt entry and return -/

/-- `-- critical section begin --` (rule R15). -/
def enterCritical (s : State) : State := setIflag false s

/-- `-- critical section end --` (rule R15). -/
def leaveCritical (s : State) : State := setIflag true s

/-- Interrupt entry: the pending flag of the delivered unit is cleared and interrupts are masked (rule R153). The block
saves nothing, and the one vector leads to the dispatcher. -/
def takeInterrupt (u : CompareUnit) (s : State) : State := setIflag false (setOcf u false s)

/-- The return from the dispatcher: `I <- 1` and nothing else (rule R154). -/
def returnFromInterrupt (s : State) : State := setIflag true s

/-! ### Reset (rule R170) -/

/-- The external reset: every field of the state tuple takes its value of rule R51. The parameters and what the outside
world has still to do are no state of the block and stay (log 16). -/
def externalReset (s : State) : State :=
  { State.reset with cfg := s.cfg, commands := s.commands, turns := s.turns, freeIndex := s.freeIndex }

/-! ### Pins (rule R40) -/

/-- What is seen at a pin. -/
inductive PinValue where
  | float
  | driven (high : Bool)
  deriving DecidableEq, Repr

/-- The observable pin value by the spec's rules (rule R40). -/
def pinValue (u : CompareUnit) (s : State) : PinValue :=
  match s.dir.get u with
  | .input => .float
  | .output => .driven (s.level.get u)

/-- Where 93_implementation_defined.md lets a real target's pin take any value: the one tick of a zero compare value and the
last tick of a compare value equal to `TOP` (X10), after a disconnect that left the pin high (X11), and from a connect to the
next period start (X19). -/
def pinLeftOpen (u : CompareUnit) (s : State) : Bool :=
  let isConnected := s.com.get u == Config.comConnected
  (isConnected && s.cnt == 0 && s.ocrAct.get u == 0)
    || (isConnected && s.cfg.topInclusive && s.cnt == s.top && s.ocrAct.get u == s.top)
    || (!isConnected && s.level.get u)
    || s.levelOpen.get u

/-- The pin of a real target: rule R40 where the spec fixes it, a free value elsewhere (log 15). -/
def targetPin (u : CompareUnit) (s : State) : PinValue :=
  match s.dir.get u with
  | .input => .float
  | .output => .driven (bif pinLeftOpen u s then Config.freePin u s.freeIndex else s.level.get u)

end Sys2Proof.Machine
end

