-- ==== Sys2Proof/Machine/Flags.lean ====
section
/-! DEFINITION. The derived flags: the connection and state of a unit (rules R27, R28), the configured timer (rule R33) and
the interrupt sources (rules R143, R153, R158). -/

namespace Sys2Proof.Machine

/-- `connected(u)`: `OCIE[u] = 1` and `COM[u] = 0b10` (rule R27). -/
def connected (u : CompareUnit) (s : State) : Bool :=
  s.ocie.get u && s.com.get u == Config.comConnected

/-- The three channel states (rule R28). -/
inductive ChannelState where
  | empty
  | disconnected
  | connected
  deriving DecidableEq, Repr

/-- The state of a unit's channel (rule R28). -/
def channelState (u : CompareUnit) (s : State) : ChannelState :=
  bif (s.slot.get u).isNone then .empty
  else bif connected u s then .connected
  else .disconnected

/-- Both slots are empty: no attach has succeeded since reset (rules R26, R100). -/
def bothEmpty (s : State) : Bool := s.slot.a.isNone && s.slot.b.isNone

/-- The timer is configured (rule R33). -/
def configured (s : State) : Bool :=
  s.wgm == Config.wgmFastPwm && s.cs == Config.csDivideBy8 && s.top == Config.topValue

/-- The interrupt source of `u` is pending and enabled (rule R143). -/
def deliverable (u : CompareUnit) (s : State) : Bool := s.ocf.get u && s.ocie.get u

/-- Some source is pending and enabled. -/
def anyDeliverable (s : State) : Bool := deliverable .a s || deliverable .b s

/-- DELIVER is enabled: not masked, and a source is pending and enabled (rule R153). -/
def deliverEnabled (s : State) : Bool := s.iflag && anyDeliverable s

/-- The source that DELIVER takes: unit A first (rules R153, R158 (a)). -/
def deliverUnit (s : State) : CompareUnit := bif deliverable .a s then .a else .b

end Sys2Proof.Machine
end

