-- ==== Sys2Proof/Machine/Connection.lean ====
section
/-! DEFINITION. The internal procedures CONNECT and DISCONNECT (rules R120, R121). -/

namespace Sys2Proof.Machine

/-- `CONNECT(u)` (rule R120). The handle it returns is `u` itself (rule R38). The level stays (rule R120 (c)), and that a
real target's may not is noted (93_implementation_defined.md X19). -/
def connect (u : CompareUnit) (s : State) : State :=
  let s₁ := setCom u Config.comConnected (setOcie u true s)
  let s₂ := bif s₁.cfg.connectClearsPending then setOcf u false s₁ else s₁
  setLevelOpen u true s₂

/-- `DISCONNECT(u)` (rule R121). -/
def disconnect (u : CompareUnit) (s : State) : State :=
  setCom u Config.comDisconnected (setOcie u false s)

end Sys2Proof.Machine
end

