-- ==== Sys2Proof/Machine/Operands.lean ====
section
/-! DEFINITION. What the commands compute from their operands: the unit of a pin (rules R10, R102), the clamp (rule R111) and
the angle-to-pulse-width map (rule R112). -/

namespace Sys2Proof.Machine

/-- `unitOf`, on a supported pin; none on every other pin (rules R10, R102). -/
def unitOf (c : Config) (pin : Byte) : Option CompareUnit :=
  if pin = c.pinA then some .a
  else if pin = c.pinB then some .b
  else none

/-- `pinOf` (rule R150). -/
def pinOf (c : Config) : CompareUnit → Byte
  | .a => c.pinA
  | .b => c.pinB

/-- `clamp(v, lo, hi)` (rule R13). -/
def clamp (v lo hi : Int) : Int :=
  if v < lo then lo else if v > hi then hi else v

/-- The clamp of a commanded angle (rule R111). -/
def clampAngle (angle : Int) : Int := clamp angle Config.angleMin Config.angleMax

/-- The exact value of the map before it is narrowed: `minPW + tdiv(a * d, 180)`, truncating toward zero (rule R112). -/
def exactWidth (a : Int) (minPW maxPW : Half) : Int :=
  (minPW.toNat : Int) + Int.tdiv (a * ((maxPW.toNat : Int) - (minPW.toNat : Int))) 180

/-- `map(a, minPW, maxPW)`: bits 15:0 of the exact value (rule R112). -/
def mapWidth (a : Int) (minPW maxPW : Half) : Half := BitVec.ofInt 16 (exactWidth a minPW maxPW)

/-- The pulse width that an angle commands on a channel. -/
def widthOf (c : Channel) (angle : Int) : Half := mapWidth (clampAngle angle) c.minPW c.maxPW

end Sys2Proof.Machine
end

