-- ==== Sys2Proof/Machine/AngleWrite.lean ====
section
/-! DEFINITION. WRITE_ANGLE (rule R110), in the two halves that its step boundary makes. -/

namespace Sys2Proof.Machine

/-- The part of WRITE_ANGLE from the critical section's entry to the step boundary (rule R110), on a unit whose slot is
filled. No result is returned yet. -/
def beginWrite (u : CompareUnit) (width : Half) (s : State) : State :=
  let s₁ := enterCritical s
  let s₂ := bif connected u s₁ then s₁ else connect u s₁
  let s₃ := bif s₂.cfg.writeResetsWindow then setPulseCount u 0 s₂ else s₂
  setResult none (setInflight (some ⟨u, width⟩) s₃)

/-- The part of WRITE_ANGLE after the step boundary (rule R110). -/
def finishWrite (f : Inflight) (s : State) : State :=
  reply .ok (leaveCritical (setInflight none (setOcr f.unit f.width s)))

/-- WRITE_ANGLE up to its step boundary (rule R110); the HOST's next step is `finishWrite` (rule R50 (c)). -/
def execWriteAngle (pin : Byte) (angle : Int) (s : State) : Host.Outcome State Fault Refusal :=
  match unitOf s.cfg pin with
  | none => .next (reply .ignoredBadPin s)
  | some u =>
    match s.slot.get u with
    | none => .next (reply .ignoredNotAttached s)
    | some c => .next (beginWrite u (widthOf c angle) s)

end Sys2Proof.Machine
end

