-- ==== Sys2Proof/Machine/Attach.lean ====
section
/-! DEFINITION. Configuration and attach: `configure_timer` (rule R100), ATTACH (rule R101) and ATTACH_MINMAX (rule R102). -/

namespace Sys2Proof.Machine

/-- `configure_timer()` (rule R100), in the rule's order; it does not write `CNT`. -/
def configureTimer (s : State) : State :=
  leaveCritical (setCs Config.csDivideBy8 (setWgm Config.wgmFastPwm (setTop Config.topValue (enterCritical s))))

/-- The record an attach creates (rule R102). -/
def newChannel (pin : Byte) (minPW maxPW : Half) : Channel := ⟨pin, minPW, maxPW, 0⟩

/-- The attach of both forms (rule R102). -/
def attachChannel (pin : Byte) (minPW maxPW : Half) (s : State) : State :=
  match unitOf s.cfg pin with
  | none => reply .ignoredBadPin s
  | some u =>
    match s.slot.get u with
    | some _ => reply .ignoredOccupied s
    | none =>
      let s₁ := bif bothEmpty s then configureTimer s else s
      reply .ok (setDir u .output (setSlot u (newChannel pin minPW maxPW) s₁))

/-- ATTACH: ATTACH_MINMAX with the default bounds (rule R101). -/
def execAttach (pin : Byte) (s : State) : Host.Outcome State Fault Refusal :=
  .next (attachChannel pin Config.defaultMinPW Config.defaultMaxPW s)

/-- ATTACH_MINMAX (rule R102). -/
def execAttachMinmax (pin : Byte) (minPW maxPW : Half) (s : State) : Host.Outcome State Fault Refusal :=
  .next (attachChannel pin minPW maxPW s)

end Sys2Proof.Machine
end

