-- ==== Sys2Proof/Machine/Dispatcher.lean ====
section
/-! DEFINITION. The dispatcher DISPATCH (rule R130) and the auto-disconnect handler HANDLE (rule R132). -/

namespace Sys2Proof.Machine

/-- `HANDLE(u)` (rule R132), on the record that the unit's slot holds. The comparison with `PULSE_RATE` is of the exact
count (rule R132 (a)). -/
def handle (u : CompareUnit) (c : Channel) (s : State) : State :=
  let s₁ := setPulseCount u (c.pulseCount + 1) s
  bif c.pulseCount.toNat + 1 == Config.pulseRate then setPulseCount u 0 (disconnect u s₁) else s₁

/-- DISPATCH (rule R130): looks up the unit's channel and nothing else (rule R131). It touches neither `I` nor `OCF`, who
ever issues it (rule R87). -/
def execDispatch (u : CompareUnit) (s : State) : Host.Outcome State Fault Refusal :=
  match s.slot.get u with
  | none => .next (reply .ignoredNoChannel s)
  | some c => .next (reply .ok (handle u c s))

end Sys2Proof.Machine
end

