-- ==== Sys2Proof/Machine/Dispatch.lean ====
section
/-! DEFINITION. The meaning of each command, one arm a constructor. -/

namespace Sys2Proof.Machine

def exec (i : Instr) (s : State) : Host.Outcome State Fault Refusal :=
  match i with
  | .attach pin => Sys2Proof.Machine.execAttach pin s
  | .attachMinmax pin minPW maxPW => Sys2Proof.Machine.execAttachMinmax pin minPW maxPW s
  | .writeAngle pin angle => Sys2Proof.Machine.execWriteAngle pin angle s
  | .dispatch u => Sys2Proof.Machine.execDispatch u s

end Sys2Proof.Machine
end

