-- ==== Sys2Proof/Machine/Timer.lean ====
section
/-! DEFINITION. The TIMER agent: TICK (rule R150) and the two holds on it (rules R155, R157). -/

namespace Sys2Proof.Machine

/-- The counter returns to zero with this tick (rule R150); the sum is exact (rule R13). -/
def wraps (s : State) : Bool :=
  bif s.cfg.topInclusive then s.cnt == s.top else s.cnt.toNat + 1 == s.top.toNat

/-- `CNT` after this tick (rule R150). -/
def nextCount (s : State) : Half := bif wraps s then 0 else s.cnt + 1

/-- What a period start does for one unit: the buffered compare value is loaded, a connected unit's pin goes high
(rule R150). -/
def startUnit (u : CompareUnit) (s : State) : State :=
  let s₁ := bif s.cfg.ocrUpdate == .atBottom then setOcrAct u (s.ocr.get u) s else s
  let s₂ := bif s₁.com.get u == Config.comConnected then setLevel u true s₁ else s₁
  setLevelOpen u false s₂

/-- The compare match of one unit, if the counter equals its compare value: the flag is set whatever `OCIE[u]` holds, a
connected unit's pin goes low (rule R150). -/
def matchUnit (u : CompareUnit) (s : State) : State :=
  bif s.cnt == s.ocrAct.get u then
    let s₁ := setOcf u true s
    bif s₁.com.get u == Config.comConnected then setLevel u false s₁ else s₁
  else s

/-- `TICK()` (rule R150): count, then the period start, then the matches. -/
def tick (s : State) : State :=
  let s₁ := setCnt (nextCount s) s
  let s₂ := bif s₁.cnt == 0 then startUnit .b (startUnit .a s₁) else s₁
  matchUnit .b (matchUnit .a s₂)

/-- This tick would be a period start. -/
def wouldStart (s : State) : Bool := nextCount s == 0

/-- The compare value of `u` that this tick compares with: after the load, if it is a period start (rule R150). -/
def comparedValue (u : CompareUnit) (s : State) : Half :=
  bif wouldStart s && s.cfg.ocrUpdate == .atBottom then s.ocr.get u else s.ocrAct.get u

/-- This tick would be a compare match of `u`. -/
def wouldMatch (u : CompareUnit) (s : State) : Bool := nextCount s == comparedValue u s

/-- The once-per-period hold (rule R155). -/
def heldByMatch (s : State) : Bool :=
  (wouldMatch .a s && deliverable .a s) || (wouldMatch .b s && deliverable .b s)

/-- The latency hold (rule R157). -/
def heldByLatency (s : State) : Bool := s.cfg.strictLatency && wouldStart s && anyDeliverable s

/-- TICK is enabled (rule R150). -/
def tickEnabled (s : State) : Bool :=
  s.cs == Config.csDivideBy8 && !heldByMatch s && !heldByLatency s

end Sys2Proof.Machine
end

