-- ==== Sys2Proof/Machine/Agents.lean ====
section
/-! DEFINITION. The agents' steps: the HOST issues a command word or ends the WRITE_ANGLE in flight (rules R8, R50 (c), R87),
the TIMER ticks (rule R150), the INTERRUPT UNIT delivers (rule R153). -/

namespace Sys2Proof.Machine

/-- Whose turn it is (rule R8): `State.turns` says, and where it ends a free value does (log 2). -/
def nextTurn (s : State) : Turn :=
  match s.turns with
  | t :: _ => t
  | [] => Config.scheduler s.freeIndex

/-- The turn is taken: the next turn and the next free value come up. -/
def takeTurn (s : State) : State := { s with turns := s.turns.tail, freeIndex := s.freeIndex + 1 }

/-- May the HOST issue this command (rule R87)? -/
def hostMayIssue (c : Config) : Instr → Bool
  | .attach _ => true
  | .attachMinmax _ _ _ => true
  | .writeAngle _ _ => true
  | .dispatch _ => c.injectDispatch

/-- The HOST issues a command word: an illegal one returns ILLEGAL and changes nothing (rules R86, R87). -/
def issue (w : CommandWord) (s : State) : Host.Outcome State Fault Refusal :=
  match decode w with
  | .error _ => .next (reply .illegal s)
  | .ok i => bif hostMayIssue s.cfg i then exec i s else .next (reply .illegal s)

/-- The HOST's step: the second half of a WRITE_ANGLE in flight and nothing else (rule R50 (c)), or else its next command;
it is never obliged to have one (rule R156, log 3). -/
def hostStep (s : State) : Host.Outcome State Fault Refusal :=
  match s.inflight with
  | some f => .next (finishWrite f s)
  | none =>
    match s.commands with
    | [] => .next s
    | w :: rest => issue w { s with commands := rest }

/-- The TIMER's step: TICK when it is enabled; a held or stopped timer takes no step (rules R150, R155, R157, log 5). -/
def timerStep (s : State) : State := bif tickEnabled s then tick s else s

/-- The body of `DELIVER()` (rule R153): entry, DISPATCH, return; the INTERRUPT UNIT discards the result (rule R140), so the
HOST's last code stays. -/
def deliver (s : State) : Host.Outcome State Fault Refusal :=
  let u := deliverUnit s
  match exec (.dispatch u) (takeInterrupt u s) with
  | .next t => .next (returnFromInterrupt (setResult s.result t))
  | .fault r => .fault r
  | .refused r => .refused r

/-- The INTERRUPT UNIT's step: DELIVER when it is enabled (rule R153, log 5). -/
def interruptStep (s : State) : Host.Outcome State Fault Refusal :=
  bif deliverEnabled s then deliver s else .next s

/-- The step of whoever has the turn. -/
def turnStep (t : Turn) (s : State) : Host.Outcome State Fault Refusal :=
  match t with
  | .host => hostStep s
  | .timer => .next (timerStep s)
  | .interruptUnit => interruptStep s
  | .reset => .next (externalReset s)

/-- `w` stands as the HOST's next command and the HOST has the turn. A WRITE_ANGLE in flight would be the HOST's only step,
so none is; and the HOST may issue a DISPATCH only as an injection (rule R87, log 8). -/
def loadCommand (w : CommandWord) (s : State) : State :=
  { s with
    inflight := none
    commands := w :: s.commands
    turns := .host :: s.turns
    cfg := match decode w with
      | .ok (.dispatch _) => { s.cfg with injectDispatch := true }
      | _ => s.cfg }

end Sys2Proof.Machine
end

