-- ==== Sys2Proof/Machine/Step.lean ====
section
/-! DEFINITION. One step of the machine: one atom of rule R68, of the agent whose turn it is (rules R8, R70); and the host's
`withFetchWord`. -/

namespace Sys2Proof.Machine

/-- One step. -/
def step (s : State) : Host.Outcome State Fault Refusal := turnStep (nextTurn s) (takeTurn s)

/-- `s` with the command word `w` (its bits above `nbits` zero) as what the very next step runs (log 8). -/
def State.withFetchWord (s : State) (nbits w : Nat) : State := loadCommand (BitVec.ofNat 64 (w % 2 ^ nbits)) s

end Sys2Proof.Machine
end

