-- ==== Sys2Proof/Machine/Assembler.lean ====
section
/-! DEFINITION. The command assembly text of rules R89 and R90: one line to the word of one command, refusing out-of-range
operands by name. Text is a list of characters. -/

namespace Sys2Proof.Machine

/-- Why a line is refused (rule R89). No step raises one: this is the assembler, not the block. -/
inductive AsmRefusal where
  /-- A `<pin>` outside 0..255. -/
  | pinOutOfRange
  /-- A `<minPW>` outside 0..65535. -/
  | minPWOutOfRange
  /-- A `<maxPW>` outside 0..65535. -/
  | maxPWOutOfRange
  /-- An `<angle>` outside -32768..32767. -/
  | angleOutOfRange
  /-- A unit other than `A` or `B`. -/
  | unknownUnit
  /-- A mnemonic that is none of the four. -/
  | unknownMnemonic
  /-- Not the operands of the mnemonic, or not a number. -/
  | malformed
  deriving DecidableEq, Repr

/-- A line's command with its operands as written, not yet checked. -/
inductive AsmCommand where
  | attach (pin : Nat)
  | attachMinmax (pin minPW maxPW : Nat)
  | writeAngle (pin : Nat) (angle : Int)
  | dispatch (unit : List Char)
  deriving DecidableEq, Repr

/-- The range checks of rule R89; each mnemonic gives its own command and no other (rule R90). -/
def checkCommand : AsmCommand → Except AsmRefusal Instr
  | .attach pin =>
    if pin > 255 then .error .pinOutOfRange else .ok (.attach (BitVec.ofNat 8 pin))
  | .attachMinmax pin minPW maxPW =>
    if pin > 255 then .error .pinOutOfRange
    else if minPW > 65535 then .error .minPWOutOfRange
    else if maxPW > 65535 then .error .maxPWOutOfRange
    else .ok (.attachMinmax (BitVec.ofNat 8 pin) (BitVec.ofNat 16 minPW) (BitVec.ofNat 16 maxPW))
  | .writeAngle pin angle =>
    if pin > 255 then .error .pinOutOfRange
    else if !angleInRange angle then .error .angleOutOfRange
    else .ok (.writeAngle (BitVec.ofNat 8 pin) angle)
  | .dispatch unit =>
    if unit = ['A'] then .ok (.dispatch .a)
    else if unit = ['B'] then .ok (.dispatch .b)
    else .error .unknownUnit

/-! ### Text -/

def isBlankChar (c : Char) : Bool := c == ' ' || c == '\t'

/-- A capital letter for a small one; every other character as it is. -/
def upperChar (c : Char) : Char :=
  if 97 ≤ c.toNat ∧ c.toNat ≤ 122 then Char.ofNat (c.toNat - 32) else c

def trimBlanks (cs : List Char) : List Char :=
  ((cs.dropWhile isBlankChar).reverse.dropWhile isBlankChar).reverse

/-- The value of a digit in a base up to 16. -/
def digitValue (base : Nat) (c : Char) : Option Nat :=
  let n := c.toNat
  let v := if 48 ≤ n ∧ n ≤ 57 then n - 48
    else if 65 ≤ n ∧ n ≤ 70 then n - 55
    else if 97 ≤ n ∧ n ≤ 102 then n - 87
    else 16
  if v < base then some v else none

/-- The value of the digits after those that gave `acc`. -/
def digitsValue (base : Nat) : Nat → List Char → Option Nat
  | acc, [] => some acc
  | acc, c :: cs =>
    match digitValue base c with
    | some v => digitsValue base (acc * base + v) cs
    | none => none

/-- A decimal or `0x` hexadecimal number (rule R89). -/
def parseNat : List Char → Option Nat
  | [] => none
  | ['0', 'x'] => none
  | '0' :: 'x' :: cs => digitsValue 16 0 cs
  | cs => digitsValue 10 0 cs

/-- A number that may carry a leading `-` (rule R89). -/
def parseInt : List Char → Option Int
  | '-' :: cs => (parseNat cs).map fun n => -(n : Int)
  | cs => (parseNat cs).map fun n => (n : Int)

/-- The pieces between commas, each without blanks around it. -/
def splitCommas : List Char → List (List Char)
  | [] => [[]]
  | c :: cs =>
    if c = ',' then [] :: splitCommas cs
    else
      match splitCommas cs with
      | [] => [[c]]
      | p :: ps => (c :: p) :: ps

/-- A line's command from its mnemonic in capitals and its operands. -/
def parseCommand (mnemonic : List Char) (operands : List (List Char)) : Except AsmRefusal AsmCommand :=
  if mnemonic = ['A', 'T', 'T', 'A', 'C', 'H'] then
    match operands.map parseNat with
    | [some pin] => .ok (.attach pin)
    | _ => .error .malformed
  else if mnemonic = ['A', 'T', 'T', 'A', 'C', 'H', '_', 'M', 'I', 'N', 'M', 'A', 'X'] then
    match operands.map parseNat with
    | [some pin, some minPW, some maxPW] => .ok (.attachMinmax pin minPW maxPW)
    | _ => .error .malformed
  else if mnemonic = ['W', 'R', 'I', 'T', 'E', '_', 'A', 'N', 'G', 'L', 'E'] then
    match operands with
    | [pin, angle] =>
      match parseNat pin, parseInt angle with
      | some p, some a => .ok (.writeAngle p a)
      | _, _ => .error .malformed
    | _ => .error .malformed
  else if mnemonic = ['D', 'I', 'S', 'P', 'A', 'T', 'C', 'H'] then
    match operands with
    | [unit] => .ok (.dispatch unit)
    | _ => .error .malformed
  else .error .unknownMnemonic

/-- One line: a `;` starts a comment, the mnemonic's letters may be small (rule R89). A line with no command gives none. -/
def assembleLine (line : List Char) : Except AsmRefusal (Option CommandWord) :=
  let text := trimBlanks (line.takeWhile (· != ';'))
  if text = [] then .ok none
  else
    let mnemonic := (text.takeWhile fun c => !isBlankChar c).map upperChar
    let rest := text.dropWhile fun c => !isBlankChar c
    match parseCommand mnemonic ((splitCommas rest).map trimBlanks) with
    | .error e => .error e
    | .ok c =>
      match checkCommand c with
      | .error e => .error e
      | .ok i => .ok (some (encode i))

end Sys2Proof.Machine
end

