-- ==== Sys2Proof/Machine/RegisterSpace.lean ====
section
/-! DEFINITION. The register space (rules R60 to R67) as a view of the state's fields: the layouts of rules R41 to R47, the
accesses by name and by address (rule R64), the byte view (rule R65), and the image a register trace compares (rule R63). -/

namespace Sys2Proof.Machine

/-- The registers of the register space (rule R60). -/
inductive Reg where
  | ctrlA
  | ctrlB
  | imsk
  | iflg
  | status
  | top
  | ocrA
  | ocrB
  | cnt
  | pindir
  | pinlvl
  deriving DecidableEq, Repr

/-- Every register, by its default address (rule R62). -/
def allRegs : List Reg :=
  [.pinlvl, .pindir, .iflg, .status, .imsk, .ctrlA, .ctrlB, .cnt, .top, .ocrA, .ocrB]

/-- How many bytes a register takes: two for a 16-bit register, one for every other (rules R60, R64, log 10). -/
def Reg.bytes : Reg → Nat
  | .top | .ocrA | .ocrB | .cnt => 2
  | .ctrlA | .ctrlB | .imsk | .iflg | .status | .pindir | .pinlvl => 1

/-- `REG_ADDR` (rule R62). -/
def Reg.address (m : RegMap) : Reg → Nat
  | .ctrlA => m.ctrlA
  | .ctrlB => m.ctrlB
  | .imsk => m.imsk
  | .iflg => m.iflg
  | .status => m.status
  | .top => m.top
  | .ocrA => m.ocrA
  | .ocrB => m.ocrB
  | .cnt => m.cnt
  | .pindir => m.pindir
  | .pinlvl => m.pinlvl

/-- The compare register that a handle selects (rules R38, R77). -/
def compareReg : CompareUnit → Reg
  | .a => .ocrA
  | .b => .ocrB

/-! ### Layouts (rules R41 to R47) -/

def ctrlA (s : State) : Byte := s.com.a ++ s.com.b ++ 0#2 ++ s.wgm.extractLsb' 0 2
def ctrlB (s : State) : Byte := 0#3 ++ s.wgm.extractLsb' 2 2 ++ s.cs
def imsk (s : State) : Byte := 0#5 ++ BitVec.ofBool s.ocie.b ++ BitVec.ofBool s.ocie.a ++ 0#1
def iflg (s : State) : Byte := 0#5 ++ BitVec.ofBool s.ocf.b ++ BitVec.ofBool s.ocf.a ++ 0#1
def status (s : State) : Byte := BitVec.ofBool s.iflag ++ s.hostStatus

/-- The direction bit: 1 means output (rule R47). -/
def dirBit : Direction → BitVec 1
  | .input => 0
  | .output => 1

def pindir (s : State) : BitVec 2 := dirBit s.dir.b ++ dirBit s.dir.a
def pinlvl (s : State) : BitVec 2 := BitVec.ofBool s.level.b ++ BitVec.ofBool s.level.a

/-! ### Accesses by name (rule R64) -/

/-- `RegRead(name)`, zero-extended to 16 bits. No read has a side effect (rule R67). -/
def regRead (r : Reg) (s : State) : Half :=
  match r with
  | .ctrlA => (ctrlA s).setWidth 16
  | .ctrlB => (ctrlB s).setWidth 16
  | .imsk => (imsk s).setWidth 16
  | .iflg => (iflg s).setWidth 16
  | .status => (status s).setWidth 16
  | .top => s.top
  | .ocrA => s.ocr.a
  | .ocrB => s.ocr.b
  | .cnt => s.cnt
  | .pindir => (pindir s).setWidth 16
  | .pinlvl => (pinlvl s).setWidth 16

/-- The direction that a bit of `PINDIR` gives (rule R47). -/
def dirOfBit : Bool → Direction
  | false => .input
  | true => .output

/-- `RegWrite(name, v)`: the fields take their bits of `v`; reserved and unused bits keep their reset value 0 (rule R48,
log 12). A write of an `OCR` is the write of rule R67. -/
def regWrite (r : Reg) (v : Half) (s : State) : State :=
  match r with
  | .ctrlA =>
    setWgm (s.wgm.extractLsb' 2 2 ++ v.extractLsb' 0 2)
      (setCom .b (v.extractLsb' 4 2) (setCom .a (v.extractLsb' 6 2) s))
  | .ctrlB => setCs (v.extractLsb' 0 3) (setWgm (v.extractLsb' 3 2 ++ s.wgm.extractLsb' 0 2) s)
  | .imsk => setOcie .b (v.getLsbD 2) (setOcie .a (v.getLsbD 1) s)
  | .iflg => setOcf .b (v.getLsbD 2) (setOcf .a (v.getLsbD 1) s)
  | .status => setHostStatus (v.extractLsb' 0 7) (setIflag (v.getLsbD 7) s)
  | .top => setTop v s
  | .ocrA => setOcr .a v s
  | .ocrB => setOcr .b v s
  | .cnt => setCnt v s
  | .pindir => setDir .b (dirOfBit (v.getLsbD 1)) (setDir .a (dirOfBit (v.getLsbD 0)) s)
  | .pinlvl => setLevel .b (v.getLsbD 1) (setLevel .a (v.getLsbD 0) s)

/-- The bits of a register that hold a field; the others are 0 (rules R41 to R47). -/
def Reg.fieldMask : Reg → Half
  | .ctrlA => 0x00F3
  | .ctrlB => 0x001F
  | .imsk => 0x0006
  | .iflg => 0x0006
  | .status => 0x00FF
  | .top | .ocrA | .ocrB | .cnt => 0xFFFF
  | .pindir | .pinlvl => 0x0003

/-! ### Accesses by address (rules R64 to R66) -/

/-- The register that an access of `n` bytes at `address` reaches: one that starts there and has that width. -/
def regAt (m : RegMap) (address n : Nat) : Option Reg :=
  allRegs.find? fun r => r.address m == address && r.bytes == n

/-- `MemRead(addr, n)`: a whole register, or refused (rules R64, R66). -/
def memRead (address n : Nat) (s : State) : Except Refusal Half :=
  match regAt s.cfg.regs address n with
  | some r => .ok (regRead r s)
  | none => .error (.registerAccess address n)

/-- `MemWrite(addr, n, v)`: a whole register, or refused (rules R64, R66). -/
def memWrite (address n : Nat) (v : Half) (s : State) : Except Refusal State :=
  match regAt s.cfg.regs address n with
  | some r => .ok (regWrite r v s)
  | none => .error (.registerAccess address n)

/-! ### The byte view (rule R65) -/

/-- The bytes of one register, the low byte at the lower address (rule R65). -/
def regCells (s : State) (r : Reg) : List Host.Cell :=
  let v := regRead r s
  let a := r.address s.cfg.regs
  if r.bytes = 2 then [(a, v.extractLsb' 0 8), (a + 1, v.extractLsb' 8 8)] else [(a, v.extractLsb' 0 8)]

/-- The bytes of the register space. -/
def registerBytes (s : State) : List Host.Cell := allRegs.flatMap (regCells s)

/-- The byte that stands at an address, if a cell lists it. -/
def readCell (a : Nat) : List Host.Cell → Option Byte
  | [] => none
  | (k, v) :: rest => if k = a then some v else readCell a rest

/-- A one-byte observation: of a 16-bit register's half it sees the corresponding byte (rule R65); an address that no
register covers shows nothing. -/
def observeByte (a : Nat) (s : State) : Option Byte := readCell a (registerBytes s)

/-! ### The image as canonical data -/

/-- Addresses strictly rise. An address that is not listed reads as nothing. -/
def Memory.wf : List Host.Cell → Bool
  | [] => true
  | [_] => true
  | (a, _) :: (b, w) :: rest => decide (a < b) && Memory.wf ((b, w) :: rest)

/-- The write of one byte that keeps the form. -/
def Memory.write (a : Nat) (v : Byte) : List Host.Cell → List Host.Cell
  | [] => [(a, v)]
  | (k, w) :: rest =>
    if a < k then (a, v) :: (k, w) :: rest
    else if a = k then (a, v) :: rest
    else (k, w) :: Memory.write a v rest

/-- The register space as canonical data: what a register trace compares (rule R63). -/
def registerImage (s : State) : List Host.Cell :=
  (registerBytes s).foldr (fun c m => Memory.write c.1 c.2 m) []

/-- The maps that the statements about addresses cover: every register's bytes fit the address width (rule R60), 16-bit
registers are at even addresses, and no two registers share a byte. DESIGN CHOICE (log 29): rule R66 says the second of the
default map of rule R62 only, and no rule says the third; no access asks for any of them. -/
def mapFits (m : RegMap) : Bool :=
  (allRegs.all fun r => r.address m + r.bytes ≤ 2 ^ m.width)
    && (allRegs.all fun r => r.bytes == 1 || r.address m % 2 == 0)
    && (allRegs.all fun r => allRegs.all fun t =>
          r == t || decide (r.address m + r.bytes ≤ t.address m) || decide (t.address m + t.bytes ≤ r.address m))

end Sys2Proof.Machine
end

