-- ==== Sys2Proof/Safety.lean ====
section
/-! DEFINITION. The terms in which claims about runs are made: the invariants of rule R52, the state tuple without the model's
own fields, reachable states, fair executions (rule R156), observation points (rule R184). -/

namespace Sys2Proof.Machine

/-- The state tuple of rule R22 and the parameters, with the model's own fields blanked: two states with the same
`specPart` are the same state of the block. -/
def specPart (s : State) : State :=
  { s with result := none, commands := [], turns := [], levelOpen := .both false, freeIndex := 0 }

/-- The seven invariants of rule R52, in its order. "No critical section has run since reset" (6) is: both slots are empty,
since the first critical section is that of the attach that fills the first slot (log 27). -/
structure SpecInvariant (s : State) : Prop where
  emptyUnit : ∀ u, s.slot.get u = none → s.com.get u = 0b00#2 ∧ s.ocie.get u = false
  enableIffCom : ∀ u, s.ocie.get u = true ↔ s.com.get u = 0b10#2
  countRange : ∀ u c, s.slot.get u = some c → c.pulseCount.toNat ≤ 49
  configuredIff : bothEmpty s = false ↔ configured s = true
  connectedOutput : ∀ u, s.com.get u = 0b10#2 → s.dir.get u = .output
  flagSet : s.inflight = none → s.iflag = true ∨ bothEmpty s = true
  slotPin : ∀ u c, s.slot.get u = some c → c.pin = pinOf s.cfg u

/-- Rule R52's invariants with what they rest on: the reachable values of `COM`, `WGM`, `CS`, `TOP` and `CNT` (rules R29 to
R34), the pins' directions (rule R40) and the WRITE_ANGLE in flight (rule R50 (c)). -/
structure Inv (s : State) : Prop extends SpecInvariant s where
  pinsDistinct : s.cfg.pinA ≠ s.cfg.pinB
  comValues : ∀ u, s.com.get u = 0b00#2 ∨ s.com.get u = 0b10#2
  unconfigured : bothEmpty s = true → s.wgm = 0b0000#4 ∧ s.cs = 0b000#3 ∧ s.top = 0 ∧ s.cnt = 0
  countBelowTop : configured s = true → s.cnt.toNat < s.top.toNat + s.cfg.topInclusive.toNat
  dirOutputIff : ∀ u, s.dir.get u = .output ↔ s.slot.get u ≠ none
  flight : ∀ f, s.inflight = some f → s.iflag = false ∧ connected f.unit s = true

/-- A pin is high only inside a pulse: its unit is connected and has no match pending (rule R123). -/
def PinHighOnlyInPulse (s : State) : Prop :=
  ∀ u, s.level.get u = true → connected u s = true ∧ s.ocf.get u = false

/-- The waveform of rule R151 for a unit at this count: high exactly below the compare value in force. -/
def WaveformAt (u : CompareUnit) (s : State) : Prop :=
  s.level.get u = true ↔ s.cnt.toNat < (s.ocrAct.get u).toNat

/-- The states that some run reaches: a reset with any parameters that name two distinct pins, any commands and any turns,
then steps. -/
inductive Reachable : State → Prop where
  | start (s : State) (pins : s.cfg.pinA ≠ s.cfg.pinB) : Reachable (externalReset s)
  | step (s t : State) (before : Reachable s) (h : Machine.step s = .next t) : Reachable t

/-- An endless run under a schedule: at each instant the agent that the schedule names takes its step (rule R8). A run of
`step` is the one whose schedule is `nextTurn` of its states. -/
def ScheduledRun (schedule : Nat → Turn) (run : Nat → State) : Prop :=
  ∀ n, turnStep (schedule n) (takeTurn (run n)) = .next (run (n + 1))

/-- An agent that stays enabled from some point on is taken at some later point (rule R156). -/
def TakenWhenSteady (enabled : State → Bool) (t : Turn) (schedule : Nat → Turn) (run : Nat → State) : Prop :=
  ∀ n, (∀ m, n ≤ m → enabled (run m) = true) → ∃ m, n ≤ m ∧ schedule m = t

/-- Weak fairness (rule R156). The HOST is obliged to take only the second half of a WRITE_ANGLE. -/
structure WeaklyFair (schedule : Nat → Turn) (run : Nat → State) : Prop where
  timer : TakenWhenSteady tickEnabled .timer schedule run
  interrupts : TakenWhenSteady deliverEnabled .interruptUnit schedule run
  secondHalf : TakenWhenSteady (fun s => s.inflight.isSome) .host schedule run

/-! ### Observation points (rule R184) -/

/-- The command that the HOST issues when it takes the turn `t` in `s`: the next word, unless its step is the second half of a
WRITE_ANGLE. No other agent issues one. -/
def issuedBy (t : Turn) (s : State) : List CommandWord :=
  match t with
  | .host => bif s.inflight.isSome then [] else s.commands.take 1
  | .timer | .interruptUnit | .reset => []

/-- How many TICK steps the turn `t` in `s` takes: one if the TIMER has it and TICK is enabled. -/
def ticksBy (t : Turn) (s : State) : Nat := bif t == .timer && tickEnabled s then 1 else 0

/-- A run since a reset, in any interleaving: the agents named one after the other take their steps from `start`, and by then
the HOST has issued the listed commands, in order, and the TIMER has taken that many TICK steps (log 28). A run of `step` is
the one in which each agent is `nextTurn` of its state. -/
inductive RunSinceReset (start : State) : List CommandWord → Nat → State → Prop where
  | reset : RunSinceReset start [] 0 (externalReset start)
  | step (t : Turn) (commands : List CommandWord) (ticks : Nat) (s u : State)
      (before : RunSinceReset start commands ticks s) (noReset : t ≠ .reset) (h : turnStep t (takeTurn s) = .next u) :
      RunSinceReset start (commands ++ issuedBy t s) (ticks + ticksBy t s) u

/-- No WRITE_ANGLE is in flight and no enabled interrupt is pending. -/
def settled (s : State) : Bool := s.inflight.isNone && !anyDeliverable s

/-- `s` is an observation point of these commands and this number of TICK steps (rule R184). The order of the commands and the
ticks in time is free, and the HOST may have more commands to issue. -/
structure ObservationPoint (start : State) (commands : List CommandWord) (ticks : Nat) (s : State) : Prop where
  reached : RunSinceReset start commands ticks s
  settled : settled s = true

/-! ### Compare values beyond the period (rule R179 (a)) -/

/-- The period in ticks (rule R150). -/
def periodTicks (s : State) : Nat := s.top.toNat + s.cfg.topInclusive.toNat

/-- A registered channel whose compare values, written and in force, the counter never reaches, with no match pending. -/
structure BeyondPeriod (u : CompareUnit) (s : State) : Prop where
  registered : s.slot.get u ≠ none
  countInPeriod : s.cnt.toNat < periodTicks s
  written : periodTicks s ≤ (s.ocr.get u).toNat
  inForce : periodTicks s ≤ (s.ocrAct.get u).toNat
  noMatch : s.ocf.get u = false

/-! ### Several events, several ticks -/

/-- `n` events of unit `u` handled one after the other (rules R134, R135). -/
def dispatchTimes (u : CompareUnit) : Nat → State → Host.Outcome State Fault Refusal
  | 0, s => .next s
  | n + 1, s =>
    match exec (.dispatch u) s with
    | .next t => dispatchTimes u n t
    | .fault r => .fault r
    | .refused r => .refused r

/-- `n` ticks one after the other, with no other step between them. -/
def ticks : Nat → State → State
  | 0, s => s
  | n + 1, s => ticks n (tick s)

end Sys2Proof.Machine
end

