-- ==== Sys2Proof/Certificates/Slice0/Obligations.lean ====
section
/-! DEFINITION. The statements for the provers. Each docstring names the rule or the section of the spec it rests on, and the
log entry where a clause is the model's choice. -/

open Sys2Proof Sys2Proof.Machine

/-! ### Encoding (30_encoding.md) -/

/-- Rules R82, R83, R85: every well-formed command is read back from its word, with every operand at every value. -/
def Obligations.DecodeOfEncode : Prop :=
  ∀ i : Instr, i.WellFormed → decode (encode i) = .ok i

/-- Rules R82, R83, R85: a word that the decoder accepts is the word of the well-formed command it gives. -/
def Obligations.EncodeOfDecode : Prop :=
  ∀ (w : CommandWord) (i : Instr), decode w = .ok i → i.WellFormed ∧ encode i = w

/-- Rule R91: example encodings, one of each command and each kind of illegal word. -/
def Obligations.ExampleWordsDecode : Prop :=
  decode 0x0109000000000000 = .ok (.attach 9) ∧
  decode 0x0209022009600000 = .ok (.attachMinmax 9 544 2400) ∧
  decode 0x0309005A00000000 = .ok (.writeAngle 9 90) ∧
  decode 0x0309FFFB00000000 = .ok (.writeAngle 9 (-5)) ∧
  decode 0x1000000000000000 = .ok (.dispatch .a) ∧
  decode 0x1001000000000000 = .ok (.dispatch .b) ∧
  decode 0x0000000000000000 = .error .undefinedOpcode ∧
  decode 0x010903E800000000 = .error .xNotZero ∧
  decode 0x1002000000000000 = .error .unitAboveOne ∧
  decode 0x0309005A00000001 = .error .zNotZero

/-- Rule R86: which words are illegal, and that an illegal word is completed with ILLEGAL and changes no state. That the word
is consumed and the turn taken is the model's own (log 2, log 3). -/
def Obligations.IllegalWordsChangeNothing : Prop :=
  (∀ w : CommandWord, (∃ e, decode w = .error e) ↔
    (opField w ≠ 0x01 ∧ opField w ≠ 0x02 ∧ opField w ≠ 0x03 ∧ opField w ≠ 0x10) ∨
    zField w ≠ 0 ∨
    (opField w = 0x01 ∧ (xField w ≠ 0 ∨ yField w ≠ 0)) ∨
    (opField w = 0x03 ∧ yField w ≠ 0) ∨
    (opField w = 0x10 ∧ (xField w ≠ 0 ∨ yField w ≠ 0 ∨ (pField w).toNat > 1))) ∧
  (∀ (s : State) (w : CommandWord) (rest : List CommandWord) (e : Illegal),
    nextTurn s = .host → s.inflight = none → s.commands = w :: rest → decode w = .error e →
    step s = .next { takeTurn s with commands := rest, result := some .illegal })

/-- Rules R80, R88: byte `k` of a word is its bits `8k+7 : 8k`, eight bytes give every word back, legal or not, the decoder goes
on at the next word, and fewer than eight bytes are no command word. -/
def Obligations.WordsAreEightLittleEndianBytes : Prop :=
  (∀ (w : CommandWord) (k : Nat), k < 8 → (bytesOfWord w)[k]? = some (w.extractLsb' (8 * k) 8)) ∧
  (∀ (w : CommandWord) (rest : List Byte), wordOfBytes (bytesOfWord w ++ rest) = some (w, rest)) ∧
  (∀ (w : CommandWord) (e : Illegal) (rest : List Byte), decode w = .error e →
    decodeBytes (bytesOfWord w ++ rest) = .error e) ∧
  (∀ (i : Instr) (rest : List Byte), i.WellFormed → decodeBytes (bytesOfWord (encode i) ++ rest) = .ok (i, rest)) ∧
  (∀ bs : List Byte, bs.length < 8 → decodeBytes bs = .error .incomplete)

/-! ### Steps (00_scope.md, 60_exceptions.md) -/

/-- Rules R15, R21, R80: on the HOST's turn, with no WRITE_ANGLE in flight, the step is the meaning of the command that its next
word decodes to, if the HOST may issue it (rule R87), on the state with the word consumed and the turn taken (the model's
own fields: log 2, log 3). -/
def Obligations.HostStepRunsDecodedCommand : Prop :=
  ∀ (s : State) (w : CommandWord) (rest : List CommandWord) (i : Instr),
    nextTurn s = .host → s.inflight = none → s.commands = w :: rest → decode w = .ok i →
    (∀ u, i = .dispatch u → s.cfg.injectDispatch = true) →
    step s = exec i { takeTurn s with commands := rest }

/-- Log 8 (the model's choice): the word placed by `withFetchWord` is what the very next step runs; a DISPATCH is placed as an
injection (rule R87), every other command with the parameters as they are. -/
def Obligations.LoadedWordRunsNext : Prop :=
  ∀ (s : State) (w : CommandWord) (i : Instr), decode w = .ok i →
    ((∀ u, i ≠ .dispatch u) →
      step (s.withFetchWord 64 w.toNat) = exec i { s with inflight := none, freeIndex := s.freeIndex + 1 }) ∧
    (∀ u, i = .dispatch u →
      step (s.withFetchWord 64 w.toNat) = exec i { s with
        inflight := none
        freeIndex := s.freeIndex + 1
        cfg := { s.cfg with injectDispatch := true } })

/-- Rule R87: a DISPATCH of the HOST is ILLEGAL and changes no state unless INJECT_DISPATCH; then it runs rule R130, and no
DISPATCH, whoever issues it, touches `I` or `OCF`. -/
def Obligations.HostDispatchNeedsInjection : Prop :=
  (∀ (s : State) (w : CommandWord) (rest : List CommandWord) (u : CompareUnit),
    nextTurn s = .host → s.inflight = none → s.commands = w :: rest → decode w = .ok (.dispatch u) →
    (s.cfg.injectDispatch = false → step s = .next { takeTurn s with commands := rest, result := some .illegal }) ∧
    (s.cfg.injectDispatch = true → step s = exec (.dispatch u) { takeTurn s with commands := rest })) ∧
  (∀ (u : CompareUnit) (s t : State), exec (.dispatch u) s = .next t → t.iflag = s.iflag ∧ t.ocf = s.ocf)

/-- Rule R142: the block has no fault state and no command fails: every step of every state answers a next state. -/
def Obligations.EveryStepAnswersNext : Prop :=
  ∀ s : State, ∃ t, step s = .next t

/-- Rules R50 (c), R110: while a WRITE_ANGLE is in flight the HOST's turn is its second half, whatever commands wait: the width
is stored, in `OCRact` too when `OCR_UPDATE = IMMEDIATE`, `I` is set and OK returned; nothing else changes. -/
def Obligations.HostTurnInFlightStoresWidth : Prop :=
  ∀ (s : State) (f : Inflight), nextTurn s = .host → s.inflight = some f →
    step s = .next { takeTurn s with
      ocr := s.ocr.set f.unit f.width
      ocrAct := if s.cfg.ocrUpdate = .immediate then s.ocrAct.set f.unit f.width else s.ocrAct
      inflight := none
      iflag := true
      result := some .ok }

/-- Rules R150, R155, R157: when the TIMER's turn is a TICK. A tick that would be a match of a unit (the count it makes equals
the compare value it makes current) waits while that unit's enabled interrupt is pending; with STRICT_LATENCY a period
start waits for any. That a disabled turn leaves the block as it is, is the model's choice (log 5). -/
def Obligations.TimerTurnTicksUnlessHeld : Prop :=
  ∀ s : State, nextTurn s = .timer →
    (s.cs = 0b010#3 ∧
      (∀ u, (tick s).cnt = (tick s).ocrAct.get u → ¬(s.ocf.get u = true ∧ s.ocie.get u = true)) ∧
      (s.cfg.strictLatency = true → (tick s).cnt = 0 → ∀ u, ¬(s.ocf.get u = true ∧ s.ocie.get u = true)) →
      step s = .next (tick (takeTurn s))) ∧
    (s.cs ≠ 0b010#3 ∨
      (∃ u, (tick s).cnt = (tick s).ocrAct.get u ∧ s.ocf.get u = true ∧ s.ocie.get u = true) ∨
      (s.cfg.strictLatency = true ∧ (tick s).cnt = 0 ∧ ∃ u, s.ocf.get u = true ∧ s.ocie.get u = true) →
      step s = .next (takeTurn s))

/-- Rules R153, R154, R158 (a): DELIVER of the enabled pending unit, A first: the flag is cleared, the event counted, the unit
disconnected at the fiftieth, `I` is 1 after it, the HOST's last result stays (rule R140) and nothing else changes. -/
def Obligations.DeliveryCountsEvent : Prop :=
  ∀ (s : State) (u : CompareUnit) (c : Channel),
    nextTurn s = .interruptUnit → s.iflag = true →
    s.ocf.get u = true → s.ocie.get u = true → (u = .b → ¬(s.ocf.a = true ∧ s.ocie.a = true)) →
    s.slot.get u = some c → c.pulseCount.toNat ≤ 49 →
    step s = .next (
      if c.pulseCount = 49 then
        { takeTurn s with
          ocf := s.ocf.set u false
          slot := s.slot.set u (some { c with pulseCount := 0 })
          com := s.com.set u 0b00#2
          ocie := s.ocie.set u false }
      else
        { takeTurn s with
          ocf := s.ocf.set u false
          slot := s.slot.set u (some { c with pulseCount := c.pulseCount + 1 }) })

/-- Rule R153: DELIVER is not enabled while `I = 0` or no unit has both its flag and its enable set (a disabled turn leaves the
block as it is: log 5). And rule R69: no delivery touches a unit whose `OCIE` is 0. -/
def Obligations.NoDeliveryWhileMaskedOrDisabled : Prop :=
  (∀ s : State, nextTurn s = .interruptUnit →
    (s.iflag = false ∨ ∀ u, ¬(s.ocf.get u = true ∧ s.ocie.get u = true)) → step s = .next (takeTurn s)) ∧
  (∀ (s t : State) (u : CompareUnit), nextTurn s = .interruptUnit → s.ocie.get u = false → step s = .next t →
    t.slot.get u = s.slot.get u ∧ t.ocf.get u = s.ocf.get u ∧ t.com.get u = s.com.get u ∧ t.ocie.get u = s.ocie.get u)

/-! ### Reset (10_state.md, 70_reset_and_hazards.md) -/

/-- Rule R51: the value of every field after reset, in `State.reset` and after a reset from any state; the register bytes, whose
reserved and unused bits are 0, are 0. -/
def Obligations.ResetGivesEveryFieldItsValue : Prop :=
  ∀ t : State, (t = State.reset ∨ ∃ s, nextTurn s = .reset ∧ step s = .next t) →
    t.slot = .both none ∧ t.cnt = 0 ∧ t.top = 0 ∧ t.wgm = 0b0000#4 ∧ t.cs = 0b000#3 ∧
    t.com = .both 0b00#2 ∧ t.ocie = .both false ∧ t.ocf = .both false ∧
    t.ocr = .both 0 ∧ t.ocrAct = .both 0 ∧ t.iflag = false ∧
    t.dir = .both .input ∧ t.level = .both false ∧ t.inflight = none ∧
    ctrlA t = 0 ∧ ctrlB t = 0 ∧ imsk t = 0 ∧ iflg t = 0 ∧
    (∀ u, channelState u t = .empty ∧ pinValue u t = .float)

/-- Rule R171: in the reset state with no command waiting, no step of anyone changes the block. -/
def Obligations.NothingMovesUntilACommand : Prop :=
  ∀ s t : State, specPart s = specPart (externalReset s) → s.commands = [] → step s = .next t →
    specPart t = specPart s ∧ t.commands = []

/-- Rule R172: before the first attach, `I` changes no outcome: two states that differ in `I` alone step to states that differ in
`I` at most, and not even in `I` once a slot is filled. -/
def Obligations.FlagBeforeFirstAttachIrrelevant : Prop :=
  ∀ (s t t' : State) (b : Bool), Inv s → bothEmpty s = true →
    step s = .next t → step { s with iflag := b } = .next t' →
    { t' with iflag := t.iflag } = t ∧ (bothEmpty t = false → t' = t)

/-! ### Attach (40_configuration_attach.md) -/

/-- Rule R101: ATTACH is ATTACH_MINMAX with the bounds 1000 and 2500, in every state; its format is `F_PIN` with `OP = 0x01`;
and its example. -/
def Obligations.AttachIsAttachMinmaxWithDefaults : Prop :=
  (∀ (pin : Byte) (s : State), exec (.attach pin) s = exec (.attachMinmax pin 1000 2500) s) ∧
  (∀ pin : Byte, opField (encode (.attach pin)) = 0x01 ∧ pField (encode (.attach pin)) = pin ∧
    xField (encode (.attach pin)) = 0 ∧ yField (encode (.attach pin)) = 0 ∧ zField (encode (.attach pin)) = 0) ∧
  (∃ t, exec (.attach 9) State.reset = .next t ∧ t.result = some .ok ∧ t.slot.a = some ⟨9, 1000, 2500, 0⟩ ∧
    t.top = 20000 ∧ t.wgm = 0b1110#4 ∧ t.cs = 0b010#3 ∧ t.iflag = true ∧ t.dir.a = .output)

/-- Rule R31: `TOP` is 0 after reset; the first successful attach, which fills the first slot, writes it with 20000, and no other
step changes it. -/
def Obligations.TopIsWrittenByTheFirstAttachOnly : Prop :=
  State.reset.top = 0 ∧ (∀ s : State, (externalReset s).top = 0) ∧
  (∀ s t : State, nextTurn s ≠ .reset → step s = .next t →
    (bothEmpty s = true → bothEmpty t = false → t.top = 20000) ∧
    (t.top ≠ s.top → nextTurn s = .host ∧ bothEmpty s = true ∧ bothEmpty t = false ∧ t.top = 20000))

/-- Rules R100, R101, R102: a supported pin whose slot is empty is claimed: the record, the direction, and on the first claim
since reset the timer's configuration and `I`; nothing else changes and the result is OK. Both forms complete so. -/
def Obligations.AttachClaimsEmptySlot : Prop :=
  ∀ (s : State) (u : CompareUnit) (pin : Byte) (minPW maxPW : Half),
    s.cfg.pinA ≠ s.cfg.pinB → pin = (if u = .a then s.cfg.pinA else s.cfg.pinB) → s.slot.get u = none →
    let claimed (lo hi : Half) : State :=
      { s with
        slot := s.slot.set u (some ⟨pin, lo, hi, 0⟩)
        dir := s.dir.set u .output
        top := if s.slot.a = none ∧ s.slot.b = none then 20000 else s.top
        wgm := if s.slot.a = none ∧ s.slot.b = none then 0b1110#4 else s.wgm
        cs := if s.slot.a = none ∧ s.slot.b = none then 0b010#3 else s.cs
        iflag := if s.slot.a = none ∧ s.slot.b = none then true else s.iflag
        result := some .ok }
    exec (.attachMinmax pin minPW maxPW) s = .next (claimed minPW maxPW) ∧
    exec (.attach pin) s = .next (claimed 1000 2500)

/-- Rule R103: an ignored attach leaves every field unchanged: an unsupported pin, or an occupied unit. -/
def Obligations.IgnoredAttachChangesNothing : Prop :=
  ∀ (s : State) (pin : Byte) (minPW maxPW : Half),
    (pin ≠ s.cfg.pinA ∧ pin ≠ s.cfg.pinB →
      exec (.attachMinmax pin minPW maxPW) s = .next { s with result := some .ignoredBadPin } ∧
      exec (.attach pin) s = .next { s with result := some .ignoredBadPin }) ∧
    (∀ u, s.cfg.pinA ≠ s.cfg.pinB → pin = pinOf s.cfg u → s.slot.get u ≠ none →
      exec (.attachMinmax pin minPW maxPW) s = .next { s with result := some .ignoredOccupied } ∧
      exec (.attach pin) s = .next { s with result := some .ignoredOccupied })

/-- Rule R104: attach writes neither `COM`, `OCIE` nor `OCR`, and after a successful one the unit is DISCONNECTED. -/
def Obligations.AttachLeavesUnitDisconnected : Prop :=
  ∀ (s t : State) (pin : Byte) (minPW maxPW : Half),
    (exec (.attachMinmax pin minPW maxPW) s = .next t ∨ exec (.attach pin) s = .next t) →
    t.com = s.com ∧ t.ocie = s.ocie ∧ t.ocr = s.ocr ∧
    (∀ u, Inv s → pin = pinOf s.cfg u → t.result = some .ok → channelState u t = .disconnected)

/-- Rule R26: a filled slot is never emptied until reset, its pin and bounds never change, and a second attach for its unit is
a no-op. -/
def Obligations.FilledSlotStaysUntilReset : Prop :=
  ∀ (s : State) (u : CompareUnit) (c : Channel), s.slot.get u = some c →
    (∀ t, nextTurn s ≠ .reset → step s = .next t →
      ∃ d, t.slot.get u = some d ∧ d.pin = c.pin ∧ d.minPW = c.minPW ∧ d.maxPW = c.maxPW) ∧
    (∀ minPW maxPW, s.cfg.pinA ≠ s.cfg.pinB →
      exec (.attachMinmax (pinOf s.cfg u) minPW maxPW) s = .next { s with result := some .ignoredOccupied })

/-! ### Angle write (41_angle_write.md) -/

/-- Rule R110, to the step boundary: the unit is connected (rule R120, unless it is already), `I` is 0, the mapped width is in
flight, `pulseCount` is written only with WRITE_RESETS_WINDOW and `OCF` only with CONNECT_CLEARS_PENDING by a connect;
nothing else changes. The mark `levelOpen` and the result that is not there yet are the model's own (log 15, log 4). -/
def Obligations.WriteAngleConnectsUnit : Prop :=
  ∀ (s : State) (u : CompareUnit) (c : Channel) (angle : Int),
    s.cfg.pinA ≠ s.cfg.pinB → s.slot.get u = some c →
    exec (.writeAngle (pinOf s.cfg u) angle) s = .next
      { s with
        com := s.com.set u 0b10#2
        ocie := s.ocie.set u true
        ocf := if connected u s = false ∧ s.cfg.connectClearsPending = true then s.ocf.set u false else s.ocf
        levelOpen := if connected u s = true then s.levelOpen else s.levelOpen.set u true
        slot := if s.cfg.writeResetsWindow = true then s.slot.set u (some { c with pulseCount := 0 }) else s.slot
        iflag := false
        inflight := some ⟨u, mapWidth (if angle < 0 then 0 else if angle > 180 then 180 else angle) c.minPW c.maxPW⟩
        result := none }

/-- Rule R110: the two halves one after the other end connected, with the width in `OCR`, `I = 1` whatever it was, and OK. -/
def Obligations.WriteAngleCompletesInTwoHostTurns : Prop :=
  ∀ (s : State) (u : CompareUnit) (c : Channel) (w : CommandWord) (rest : List CommandWord) (angle : Int) (more : List Turn),
    s.cfg.pinA ≠ s.cfg.pinB → s.slot.get u = some c → s.inflight = none →
    s.turns = .host :: .host :: more → s.commands = w :: rest → decode w = .ok (.writeAngle (pinOf s.cfg u) angle) →
    ∃ s₁ t, step s = .next s₁ ∧ s₁.iflag = false ∧ s₁.ocr = s.ocr ∧ s₁.result = none ∧
      step s₁ = .next t ∧ connected u t = true ∧ t.ocr = s.ocr.set u (widthOf c angle) ∧
      t.iflag = true ∧ t.inflight = none ∧ t.result = some .ok ∧ t.commands = rest ∧ t.turns = more

/-- Rule R110: a write to an unsupported pin or to a unit with no channel changes no state. -/
def Obligations.IgnoredWriteChangesNothing : Prop :=
  ∀ (s : State) (pin : Byte) (angle : Int),
    (pin ≠ s.cfg.pinA ∧ pin ≠ s.cfg.pinB →
      exec (.writeAngle pin angle) s = .next { s with result := some .ignoredBadPin }) ∧
    (∀ u, s.cfg.pinA ≠ s.cfg.pinB → pin = pinOf s.cfg u → s.slot.get u = none →
      exec (.writeAngle pin angle) s = .next { s with result := some .ignoredNotAttached })

/-- Rule R111: every angle below 0 acts as 0 and every angle above 180 as 180, silently; the clamp is idempotent. -/
def Obligations.AnglesAreClamped : Prop :=
  ∀ angle : Int,
    (angle < 0 → clampAngle angle = 0) ∧ (angle > 180 → clampAngle angle = 180) ∧
    (0 ≤ angle → angle ≤ 180 → clampAngle angle = angle) ∧
    clampAngle (clampAngle angle) = clampAngle angle ∧
    (∀ (pin : Byte) (s : State), exec (.writeAngle pin angle) s = exec (.writeAngle pin (clampAngle angle)) s)

/-- Rule R112: the map is exact, division truncating toward zero; it stays within the bounds, so no bits are lost; and it is
exact at both ends. -/
def Obligations.MapIsExactWithinBounds : Prop :=
  ∀ (a : Int) (minPW maxPW : Half), 0 ≤ a → a ≤ 180 →
    ((mapWidth a minPW maxPW).toNat : Int) =
      (minPW.toNat : Int) + Int.tdiv (a * ((maxPW.toNat : Int) - (minPW.toNat : Int))) 180 ∧
    min minPW.toNat maxPW.toNat ≤ (mapWidth a minPW maxPW).toNat ∧
    (mapWidth a minPW maxPW).toNat ≤ max minPW.toNat maxPW.toNat ∧
    mapWidth 0 minPW maxPW = minPW ∧ mapWidth 180 minPW maxPW = maxPW

/-- Rules R102 (a), (b), R112: the width grows with the angle when `minPW <= maxPW` and falls with it when `maxPW <= minPW`. -/
def Obligations.MapIsMonotone : Prop :=
  ∀ (a b : Int) (minPW maxPW : Half), 0 ≤ a → a ≤ b → b ≤ 180 →
    (minPW.toNat ≤ maxPW.toNat → (mapWidth a minPW maxPW).toNat ≤ (mapWidth b minPW maxPW).toNat) ∧
    (maxPW.toNat ≤ minPW.toNat → (mapWidth b minPW maxPW).toNat ≤ (mapWidth a minPW maxPW).toNat)

/-- Rules R113, R114: a write to a connected channel, with the default WRITE_RESETS_WINDOW, has no effect but the compare register
(and the value in force when IMMEDIATE) and `I`; the running window is left running. With WRITE_RESETS_WINDOW the count
restarts. -/
def Obligations.ConnectedWriteOnlyMovesCompareValue : Prop :=
  ∀ (s : State) (u : CompareUnit) (c : Channel) (angle : Int),
    s.cfg.pinA ≠ s.cfg.pinB → s.slot.get u = some c → s.inflight = none → connected u s = true →
    ∃ s₁ f, exec (.writeAngle (pinOf s.cfg u) angle) s = .next s₁ ∧ s₁.inflight = some f ∧
      finishWrite f s₁ =
        { s with
          ocr := s.ocr.set u (widthOf c angle)
          ocrAct := if s.cfg.ocrUpdate = .immediate then s.ocrAct.set u (widthOf c angle) else s.ocrAct
          slot := if s.cfg.writeResetsWindow = true then s.slot.set u (some { c with pulseCount := 0 }) else s.slot
          iflag := true
          result := some .ok }

/-- Rule R176: a write that connects a unit whose flag is already pending leaves, unless CONNECT_CLEARS_PENDING, an interrupt that
the INTERRUPT UNIT delivers as soon as the critical section ends: the flag is cleared and the event counted. A pending
enabled interrupt of unit A goes before one of unit B (rule R158 (a)), which is then the next. -/
def Obligations.StaleMatchIsDeliveredAtConnect : Prop :=
  ∀ (s : State) (u : CompareUnit) (c : Channel) (angle : Int) (more : List Turn),
    s.cfg.pinA ≠ s.cfg.pinB → s.slot.get u = some c → c.pulseCount.toNat ≤ 49 → connected u s = false →
    s.ocf.get u = true →
    ∃ s₁ f, exec (.writeAngle (pinOf s.cfg u) angle) s = .next s₁ ∧ s₁.inflight = some f ∧ deliverEnabled s₁ = false ∧
      (s.cfg.connectClearsPending = true → (finishWrite f s₁).ocf.get u = false) ∧
      (s.cfg.connectClearsPending = false →
        deliverEnabled (finishWrite f s₁) = true ∧
        ∃ t, step { finishWrite f s₁ with turns := .interruptUnit :: more } = .next t ∧
          (u = .b ∧ s.ocf.a = true ∧ s.ocie.a = true →
            t.ocf.a = false ∧ t.slot.get u = (finishWrite f s₁).slot.get u ∧ deliverEnabled t = true ∧
            deliverUnit t = u) ∧
          (¬(u = .b ∧ s.ocf.a = true ∧ s.ocie.a = true) →
            let count : Byte := if s.cfg.writeResetsWindow = true then 0 else c.pulseCount
            t.ocf.get u = false ∧
            (count ≠ 49 → t.slot.get u = some { c with pulseCount := count + 1 } ∧ connected u t = true) ∧
            (count = 49 → t.slot.get u = some { c with pulseCount := 0 } ∧ connected u t = false)))

/-! ### Registers (10_state.md, 20_memory.md, 42_connect_disconnect.md) -/

/-- Rule R121: DISCONNECT clears the unit's `OCIE` and `COM` and writes nothing else: not `OCF`, `I`, the level, the direction, the
compare values or the other unit. On a disconnected unit it changes nothing. And its example. -/
def Obligations.DisconnectClearsEnableAndMode : Prop :=
  ∀ (u : CompareUnit) (s : State),
    disconnect u s = { s with ocie := s.ocie.set u false, com := s.com.set u 0b00#2 } ∧
    (s.ocie.get u = false → s.com.get u = 0b00#2 → disconnect u s = s) ∧
    (ctrlA s = 0xA2 → imsk s = 0x06 → ctrlA (disconnect .b s) = 0x82 ∧ imsk (disconnect .b s) = 0x02)

/-- Rule R35: `OCIE` is 0 after reset; only CONNECT sets it and only DISCONNECT clears it: a step leaves `OCIE` and `COM` as they
are, or as one CONNECT (of the HOST) or one DISCONNECT makes them. -/
def Obligations.OnlyConnectAndDisconnectWriteEnables : Prop :=
  State.reset.ocie = .both false ∧ (∀ s : State, (externalReset s).ocie = .both false) ∧
  (∀ (u : CompareUnit) (s : State),
    (connect u s).ocie = s.ocie.set u true ∧ (disconnect u s).ocie = s.ocie.set u false) ∧
  (∀ s t : State, nextTurn s ≠ .reset → step s = .next t →
    (t.ocie = s.ocie ∧ t.com = s.com) ∨
    (nextTurn s = .host ∧ ∃ u, t.ocie = (connect u s).ocie ∧ t.com = (connect u s).com) ∨
    (∃ u, t.ocie = (disconnect u s).ocie ∧ t.com = (disconnect u s).com))

/-- Rules R41, R43, R44, R64, R120, R121: CONNECT and DISCONNECT as the register bytes they write, every other bit of them
unchanged; CONNECT writes the flag byte too with CONNECT_CLEARS_PENDING. -/
def Obligations.ConnectionShowsInControlBytes : Prop :=
  ∀ s : State,
    ctrlA (connect .a s) = (ctrlA s &&& 0x3F#8) ||| 0x80#8 ∧ imsk (connect .a s) = imsk s ||| 0x02#8 ∧
    ctrlA (connect .b s) = (ctrlA s &&& 0xCF#8) ||| 0x20#8 ∧ imsk (connect .b s) = imsk s ||| 0x04#8 ∧
    ctrlA (disconnect .a s) = ctrlA s &&& 0x3F#8 ∧ imsk (disconnect .a s) = imsk s &&& 0xFD#8 ∧
    ctrlA (disconnect .b s) = ctrlA s &&& 0xCF#8 ∧ imsk (disconnect .b s) = imsk s &&& 0xFB#8 ∧
    (s.cfg.connectClearsPending = true →
      iflg (connect .a s) = iflg s &&& 0xFD#8 ∧ iflg (connect .b s) = iflg s &&& 0xFB#8) ∧
    (∀ (u : CompareUnit) (r : Reg), r ≠ .ctrlA → r ≠ .imsk →
      regRead r (disconnect u s) = regRead r s ∧
      ((r = .iflg → s.cfg.connectClearsPending = false) → regRead r (connect u s) = regRead r s))

/-- Rules R41 to R48, R64, R67: a register reads back what was written on the bits that hold a field, its reserved and unused
bits read 0, and no other register changes. The model's own choices in it: a write of IFLG takes the bits as given and drops
the others (log 12), STATUS holds the host processor's bits 6:0 (log 9), PINDIR and PINLVL read 0 above bit 1 (log 10). -/
def Obligations.RegisterReadsBackItsWrite : Prop :=
  ∀ (r : Reg) (v : Half) (s : State),
    regRead r (regWrite r v s) = v &&& r.fieldMask ∧ (∀ q, q ≠ r → regRead q (regWrite r v s) = regRead q s)

/-- Rules R64, R66: an access by address is the access by name of the register of that width that starts there, and every other
access is refused. Which maps are covered (`mapFits`) is the model's choice: log 29. -/
def Obligations.MemoryAccessIsRegisterAccess : Prop :=
  ∀ s : State, mapFits s.cfg.regs = true →
    (∀ r : Reg, memRead (r.address s.cfg.regs) r.bytes s = .ok (regRead r s) ∧
      ∀ v, memWrite (r.address s.cfg.regs) r.bytes v s = .ok (regWrite r v s)) ∧
    (∀ a n : Nat, (∀ r : Reg, ¬(r.address s.cfg.regs = a ∧ r.bytes = n)) →
      memRead a n s = .error (.registerAccess a n) ∧ ∀ v, memWrite a n v s = .error (.registerAccess a n))

/-- Rule R65: a 16-bit register stands with bits 7:0 at its lower address and bits 15:8 at the next, and a one-byte observation
sees the corresponding byte. Which maps are covered (`mapFits`) is the model's choice: log 29. -/
def Obligations.SixteenBitRegistersAreLittleEndian : Prop :=
  ∀ (s : State) (r : Reg), mapFits s.cfg.regs = true → r.bytes = 2 →
    observeByte (r.address s.cfg.regs) s = some ((regRead r s).extractLsb' 0 8) ∧
    observeByte (r.address s.cfg.regs + 1) s = some ((regRead r s).extractLsb' 8 8)

/-- Rules R67, R77, R102, R110, R130: the bytes of the register space that each command, and each half of WRITE_ANGLE, can change;
every byte at another address reads as before. The compare store goes to the register that the unit selects. -/
def Obligations.CommandsTouchOnlyTheirRegisters : Prop :=
  (∀ (s t : State) (a : Nat) (pin : Byte) (minPW maxPW : Half),
    (exec (.attach pin) s = .next t ∨ exec (.attachMinmax pin minPW maxPW) s = .next t) →
    a ≠ s.cfg.regs.top → a ≠ s.cfg.regs.top + 1 → a ≠ s.cfg.regs.ctrlA → a ≠ s.cfg.regs.ctrlB →
    a ≠ s.cfg.regs.status → a ≠ s.cfg.regs.pindir → observeByte a t = observeByte a s) ∧
  (∀ (s t : State) (a : Nat) (pin : Byte) (angle : Int), exec (.writeAngle pin angle) s = .next t →
    a ≠ s.cfg.regs.ctrlA → a ≠ s.cfg.regs.imsk → a ≠ s.cfg.regs.iflg → a ≠ s.cfg.regs.status →
    observeByte a t = observeByte a s) ∧
  (∀ (s : State) (a : Nat) (f : Inflight),
    a ≠ (compareReg f.unit).address s.cfg.regs → a ≠ (compareReg f.unit).address s.cfg.regs + 1 →
    a ≠ s.cfg.regs.status → observeByte a (finishWrite f s) = observeByte a s) ∧
  (∀ (s t : State) (a : Nat) (u : CompareUnit), exec (.dispatch u) s = .next t →
    a ≠ s.cfg.regs.ctrlA → a ≠ s.cfg.regs.imsk → observeByte a t = observeByte a s)

/-! ### Dispatcher and handler (43_interrupt_dispatch.md) -/

/-- Rule R130: an event of a unit with no channel is ignored and changes no state. -/
def Obligations.DispatchWithoutChannelIsIgnored : Prop :=
  ∀ (s : State) (u : CompareUnit), s.slot.get u = none →
    exec (.dispatch u) s = .next { s with result := some .ignoredNoChannel }

/-- Rules R130, R132: an event of a registered channel is counted, connected or not; at the fiftieth the unit is disconnected
and the count returns to 0; nothing else changes and the result is OK. -/
def Obligations.DispatchCountsOrDisconnects : Prop :=
  ∀ (s : State) (u : CompareUnit) (c : Channel), s.slot.get u = some c → c.pulseCount.toNat ≤ 49 →
    exec (.dispatch u) s = .next (
      if c.pulseCount = 49 then
        { s with
          slot := s.slot.set u (some { c with pulseCount := 0 })
          com := s.com.set u 0b00#2
          ocie := s.ocie.set u false
          result := some .ok }
      else
        { s with
          slot := s.slot.set u (some { c with pulseCount := c.pulseCount + 1 })
          result := some .ok })

/-- Rule R132: HANDLE counts; at `PULSE_RATE` it disconnects the unit and resets the count; it writes nothing else, so `OCF`, `I`,
the record's other fields and the compare values stay. -/
def Obligations.HandleCountsThenDisconnects : Prop :=
  ∀ (s : State) (u : CompareUnit) (c : Channel), s.slot.get u = some c → c.pulseCount.toNat ≤ 49 →
    (c.pulseCount.toNat + 1 < 50 →
      handle u c s = { s with slot := s.slot.set u (some { c with pulseCount := c.pulseCount + 1 }) } ∧
      (c.pulseCount + 1).toNat = c.pulseCount.toNat + 1) ∧
    (c.pulseCount.toNat + 1 = 50 →
      handle u c s = { disconnect u s with slot := s.slot.set u (some { c with pulseCount := 0 }) })

/-- Rules R134, R135 (4): a connected channel that has counted nothing stays connected for 49 events and is disconnected, with
its count at 0 and its pin's level kept, by the fiftieth. -/
def Obligations.FiftiethEventDisconnects : Prop :=
  ∀ (s : State) (u : CompareUnit) (c : Channel) (n : Nat),
    s.slot.get u = some c → c.pulseCount = 0 → connected u s = true → n ≤ 50 →
    ∃ t d, dispatchTimes u n s = .next t ∧ t.slot.get u = some d ∧ t.level = s.level ∧
      (n < 50 → connected u t = true ∧ d.pulseCount.toNat = n) ∧
      (n = 50 → connected u t = false ∧ t.com.get u = 0b00#2 ∧ t.ocie.get u = false ∧ d.pulseCount = 0)

/-- Rule R158 (a), 93_implementation_defined.md X23: the events of the two units may be handled in either order. -/
def Obligations.EventsOfTwoUnitsCommute : Prop :=
  ∀ s : State, ∃ s₁ s₂ t₁ t₂,
    exec (.dispatch .a) s = .next s₁ ∧ exec (.dispatch .b) s₁ = .next t₁ ∧
    exec (.dispatch .b) s = .next s₂ ∧ exec (.dispatch .a) s₂ = .next t₂ ∧ specPart t₁ = specPart t₂

/-- Rule R75: a command for one unit leaves the other unit's record, fields and pin as they are, and the second half of a
WRITE_ANGLE does so too. -/
def Obligations.CommandsLeaveTheOtherUnit : Prop :=
  let same (u : CompareUnit) (s t : State) : Prop :=
    t.slot.get u = s.slot.get u ∧ t.com.get u = s.com.get u ∧ t.ocie.get u = s.ocie.get u ∧ t.ocf.get u = s.ocf.get u ∧
    t.ocr.get u = s.ocr.get u ∧ t.ocrAct.get u = s.ocrAct.get u ∧ t.dir.get u = s.dir.get u ∧ t.level.get u = s.level.get u
  (∀ (s t : State) (u : CompareUnit) (i : Instr), s.cfg.pinA ≠ s.cfg.pinB →
    (i = .attach (pinOf s.cfg u) ∨ (∃ lo hi, i = .attachMinmax (pinOf s.cfg u) lo hi) ∨
      (∃ angle, i = .writeAngle (pinOf s.cfg u) angle) ∨ i = .dispatch u) →
    exec i s = .next t → same u.other s t) ∧
  (∀ (s : State) (f : Inflight), same f.unit.other s (finishWrite f s))

/-! ### Timer and waveform (60_exceptions.md) -/

/-- Rule R150: what a tick does, field by field: the count, the compare values in force, the pending flags whatever `OCIE` holds,
the levels of connected units only (a match after a period start, so low wins); nothing else of the block changes. That a
period start clears the mark `levelOpen` is the model's own (log 15). -/
def Obligations.TickEffects : Prop :=
  ∀ s : State,
    (tick s).cnt =
      (if (if s.cfg.topInclusive = true then s.cnt = s.top else s.cnt.toNat + 1 = s.top.toNat) then 0 else s.cnt + 1) ∧
    (∀ u, (tick s).ocrAct.get u =
        (if (tick s).cnt = 0 ∧ s.cfg.ocrUpdate = .atBottom then s.ocr.get u else s.ocrAct.get u) ∧
      (tick s).ocf.get u = (s.ocf.get u || (tick s).cnt == (tick s).ocrAct.get u) ∧
      (tick s).level.get u =
        (if s.com.get u = 0b10#2 then
          (if (tick s).cnt = (tick s).ocrAct.get u then false else if (tick s).cnt = 0 then true else s.level.get u)
        else s.level.get u) ∧
      (tick s).levelOpen.get u = (if (tick s).cnt = 0 then false else s.levelOpen.get u)) ∧
    tick s = { s with
      cnt := (tick s).cnt
      ocrAct := (tick s).ocrAct
      ocf := (tick s).ocf
      level := (tick s).level
      levelOpen := (tick s).levelOpen }

/-- Rule R150: the counter runs through `0 .. TOP-1` and the period is `TOP` ticks; with TOP_INCLUSIVE through `0 .. TOP` and
`TOP + 1` ticks. -/
def Obligations.PeriodIsTopTicks : Prop :=
  ∀ s : State, s.cnt = 0 → 0 < s.top.toNat →
    let period := s.top.toNat + s.cfg.topInclusive.toNat
    (∀ n, n < period → (ticks n s).cnt.toNat = n) ∧ (ticks period s).cnt = 0

/-- Rule R122: while `COM = 0b10` a match sets the pin low and a period start (with no match) sets it high, so that it is high exactly
while the count is below the compare value in force: a period start makes it so, every other tick keeps it so. While
`COM = 0b00` no tick touches the level. -/
def Obligations.PinIsHighBelowCompareValue : Prop :=
  ∀ (s : State) (u : CompareUnit),
    (s.com.get u = 0b10#2 →
      ((tick s).cnt = (tick s).ocrAct.get u → (tick s).level.get u = false) ∧
      ((tick s).cnt = 0 → (tick s).cnt ≠ (tick s).ocrAct.get u → (tick s).level.get u = true) ∧
      ((tick s).cnt = 0 → WaveformAt u (tick s)) ∧
      ((tick s).cnt ≠ 0 → WaveformAt u s → WaveformAt u (tick s))) ∧
    (s.com.get u = 0b00#2 → (tick s).level.get u = s.level.get u)

/-- Rules R151, R179 (a): a compare value at or beyond the period (at or above `TOP`, or above it with TOP_INCLUSIVE) is never
matched. However many ticks run, they set no flag of the unit; and every step but a reset, a HOST's second half that stores
a shorter width and an injected event of the unit keeps it so: no event of the unit is pending, its channel stays connected,
and its pin, once a period start has raised it, stays high. -/
def Obligations.NoMatchBeyondPeriod : Prop :=
  (∀ (s : State) (u : CompareUnit) (n : Nat), s.cnt.toNat < periodTicks s →
    periodTicks s ≤ (s.ocr.get u).toNat → periodTicks s ≤ (s.ocrAct.get u).toNat →
    (ticks n s).ocf.get u = s.ocf.get u ∧ (ticks n s).com.get u = s.com.get u ∧ (ticks n s).slot.get u = s.slot.get u) ∧
  (∀ (s t : State) (u : CompareUnit), BeyondPeriod u s → nextTurn s ≠ .reset →
    (nextTurn s = .host →
      (∀ f, s.inflight = some f → f.unit = u → periodTicks s ≤ f.width.toNat) ∧
      (s.cfg.injectDispatch = true → s.inflight = none →
        ∀ w rest, s.commands = w :: rest → decode w ≠ .ok (.dispatch u))) →
    step s = .next t →
    BeyondPeriod u t ∧ (connected u s = true → connected u t = true) ∧
    (s.level.get u = true → t.level.get u = true) ∧
    (connected u s = true → s.cnt ≠ 0 → t.cnt = 0 → t.level.get u = true))

/-- Rules R31, R32, R152: only the TIMER moves the counter; the timer's mode, clock and top are written while both slots are
empty and never after, so once it runs it runs until reset, and before that the counter stands. -/
def Obligations.TimerRunsUntilReset : Prop :=
  ∀ s t : State, nextTurn s ≠ .reset → step s = .next t →
    (nextTurn s ≠ .timer → t.cnt = s.cnt) ∧ (s.cs = 0b000#3 → t.cnt = s.cnt) ∧
    (bothEmpty s = false → t.cs = s.cs ∧ t.top = s.top ∧ t.wgm = s.wgm)

/-- Rule R40: a level changes only by a tick, and only while the pin's unit has `COM = 0b10`; a direction changes only from
input to output, by the HOST's attach that fills the pin's slot. -/
def Obligations.OnlyWaveformMovesLevel : Prop :=
  ∀ (s t : State) (u : CompareUnit), nextTurn s ≠ .reset → step s = .next t →
    (t.level.get u ≠ s.level.get u → nextTurn s = .timer ∧ s.com.get u = 0b10#2) ∧
    (t.dir.get u ≠ s.dir.get u →
      t.dir.get u = .output ∧ nextTurn s = .host ∧ s.inflight = none ∧ s.slot.get u = none ∧ t.slot.get u ≠ none ∧
      ∃ w rest i, s.commands = w :: rest ∧ decode w = .ok i ∧
        (i = .attach (pinOf s.cfg u) ∨ ∃ lo hi, i = .attachMinmax (pinOf s.cfg u) lo hi))

/-! ### Invariants and runs (10_state.md, 60_exceptions.md) -/

/-- Rule R52: the invariants hold after reset, whatever the parameters (two distinct pins). Clause (6) is read as log 27 says. -/
def Obligations.ResetSatisfiesInvariants : Prop :=
  Inv State.reset ∧ ∀ s : State, s.cfg.pinA ≠ s.cfg.pinB → Inv (externalReset s)

/-- Rule R52, and rules R10, R29 to R34, R40 and R50 (c) for what its invariants rest on: every step keeps the invariants, from
every state that has them. Clause (6) is read as log 27 says. -/
def Obligations.StepKeepsInvariants : Prop :=
  ∀ s t : State, Inv s → step s = .next t → Inv t

/-- Rule R52: every reachable state satisfies the seven invariants, for all parameters, commands and turns. Clause (6) is read
as log 27 says. -/
def Obligations.ReachableStatesSatisfyInvariants : Prop :=
  ∀ s : State, Reachable s → SpecInvariant s

/-- Rule R123: with the latency hold and no injected events, a pin is high only inside a pulse of its connected unit: so it is
after reset, and every step keeps it so. -/
def Obligations.PinHighOnlyInPulseIsKept : Prop :=
  (∀ s : State, PinHighOnlyInPulse (externalReset s)) ∧
  (∀ s t : State, Inv s → s.cfg.strictLatency = true → s.cfg.injectDispatch = false → PinHighOnlyInPulse s →
    step s = .next t → PinHighOnlyInPulse t)

/-- Rule R123: so an automatic disconnect leaves the pin low, and driven. -/
def Obligations.AutoDisconnectLeavesPinLow : Prop :=
  ∀ (s t : State) (u : CompareUnit), Inv s → PinHighOnlyInPulse s →
    nextTurn s = .interruptUnit → connected u s = true → step s = .next t → connected u t = false →
    t.level.get u = false ∧ t.dir.get u = .output

/-- Rule R28: a channel's three states, and their transitions with the command or event that causes each; no other exists. The
handler runs for an event of the unit, delivered or injected (rule R87). -/
def Obligations.ChannelStateTransitions : Prop :=
  ∀ (s t : State) (u : CompareUnit), Inv s → nextTurn s ≠ .reset → step s = .next t →
    (channelState u s = .empty ↔ s.slot.get u = none) ∧
    (channelState u s = .disconnected ↔ s.slot.get u ≠ none ∧ connected u s = false) ∧
    (channelState u s = .connected ↔ s.slot.get u ≠ none ∧ connected u s = true) ∧
    (channelState u s = .empty →
      s.com.get u = 0b00#2 ∧ s.ocie.get u = false ∧
      (channelState u t = .empty ∨
        (channelState u t = .disconnected ∧ nextTurn s = .host ∧
          ∃ w rest i, s.commands = w :: rest ∧ decode w = .ok i ∧
            (i = .attach (pinOf s.cfg u) ∨ ∃ lo hi, i = .attachMinmax (pinOf s.cfg u) lo hi)))) ∧
    (channelState u s = .disconnected →
      channelState u t = .disconnected ∨
        (channelState u t = .connected ∧ nextTurn s = .host ∧
          ∃ w rest angle, s.commands = w :: rest ∧ decode w = .ok (.writeAngle (pinOf s.cfg u) angle))) ∧
    (channelState u s = .connected →
      channelState u t = .connected ∨
        (channelState u t = .disconnected ∧ (∃ c, s.slot.get u = some c ∧ c.pulseCount = 49) ∧
          ((nextTurn s = .interruptUnit ∧ deliverEnabled s = true ∧ deliverUnit s = u) ∨
            (nextTurn s = .host ∧ s.inflight = none ∧ s.cfg.injectDispatch = true ∧
              ∃ w rest, s.commands = w :: rest ∧ decode w = .ok (.dispatch u)))))

/-- Rule R156: no deadlock: once the timer is configured, in every reachable state a TICK, a DELIVER or the second half of a
WRITE_ANGLE is enabled. -/
def Obligations.SomeAgentIsEnabled : Prop :=
  ∀ s : State, Reachable s → bothEmpty s = false →
    tickEnabled s = true ∨ deliverEnabled s = true ∨ s.inflight.isSome = true

/-- Rule R156: in a fair run a WRITE_ANGLE stays in flight until it is completed: its width is stored, `I` is 1 and OK returned;
unless a reset comes first. -/
def Obligations.FairRunsCompleteTheWriteInFlight : Prop :=
  ∀ (schedule : Nat → Turn) (run : Nat → State) (n : Nat) (f : Inflight),
    ScheduledRun schedule run → WeaklyFair schedule run → (run n).inflight = some f →
    ∃ m, n < m ∧ (∀ k, n ≤ k → k < m → (run k).inflight = some f) ∧ (run m).inflight = none ∧
      (schedule (m - 1) = .reset ∨
        (schedule (m - 1) = .host ∧ (run m).ocr.get f.unit = f.width ∧ (run m).iflag = true ∧
          (run m).result = some .ok))

/-- Rule R184: an observation point names the commands issued and the number of TICK steps taken since a reset. At one no enabled
interrupt is pending, whether masked or not, and once the timer is configured a TICK is enabled, so the block never halts.
Every list of commands and number of ticks that a run reaches has one, since the second half in flight and the enabled
deliveries can be taken with no further command or tick. With no command there is no tick, and the block is as after the
reset. The count starts at the last reset: log 28. The invariants are rule R52's, clause (6) read as log 27 says. -/
def Obligations.ObservationPointsAreSettled : Prop :=
  (∀ (start : State) (commands : List CommandWord) (ticks : Nat) (s : State), start.cfg.pinA ≠ start.cfg.pinB →
    ObservationPoint start commands ticks s →
    SpecInvariant s ∧ deliverEnabled s = false ∧ (∀ u, ¬(s.ocf.get u = true ∧ s.ocie.get u = true)) ∧
    (bothEmpty s = false → tickEnabled s = true)) ∧
  (∀ (start : State) (commands : List CommandWord) (ticks : Nat) (s : State), start.cfg.pinA ≠ start.cfg.pinB →
    RunSinceReset start commands ticks s → ∃ t, ObservationPoint start commands ticks t) ∧
  (∀ (start : State) (ticks : Nat) (s : State), RunSinceReset start [] ticks s →
    ticks = 0 ∧ specPart s = specPart (externalReset start))

/-! ### Results and assembler (60_exceptions.md, 30_encoding.md) -/

/-- Rule R140: the numbers of the result codes, all distinct. -/
def Obligations.ResultCodesHaveTheirNumbers : Prop :=
  resultByte .ok = 0x00 ∧ resultByte .ignoredBadPin = 0x01 ∧ resultByte .ignoredOccupied = 0x02 ∧
  resultByte .ignoredNotAttached = 0x03 ∧ resultByte .ignoredNoChannel = 0x04 ∧ resultByte .illegal = 0xFF ∧
  ∀ r q : ResultCode, resultByte r = resultByte q → r = q

/-- Rules R89, R90: the assembler's check of a parsed line (`checkCommand`, not the text) refuses out-of-range operands by name,
gives every command in range, and turns neither attach into the other: their words differ. That a line with two bad operands
is refused by the first of them is the model's choice (log 20). -/
def Obligations.AssemblerChecksOperands : Prop :=
  (∀ pin minPW maxPW : Nat, ∀ angle : Int,
    (pin > 255 → checkCommand (.attach pin) = .error .pinOutOfRange ∧
      checkCommand (.attachMinmax pin minPW maxPW) = .error .pinOutOfRange ∧
      checkCommand (.writeAngle pin angle) = .error .pinOutOfRange) ∧
    (pin ≤ 255 → minPW > 65535 → checkCommand (.attachMinmax pin minPW maxPW) = .error .minPWOutOfRange) ∧
    (pin ≤ 255 → minPW ≤ 65535 → maxPW > 65535 →
      checkCommand (.attachMinmax pin minPW maxPW) = .error .maxPWOutOfRange) ∧
    (pin ≤ 255 → angle < -32768 ∨ angle > 32767 → checkCommand (.writeAngle pin angle) = .error .angleOutOfRange)) ∧
  (∀ unit : List Char, unit ≠ ['A'] → unit ≠ ['B'] → checkCommand (.dispatch unit) = .error .unknownUnit) ∧
  (∀ i : Instr, i.WellFormed → ∃ c, checkCommand c = .ok i) ∧
  (∀ pin : Nat, pin ≤ 255 →
    checkCommand (.attach pin) = .ok (.attach (BitVec.ofNat 8 pin)) ∧
    checkCommand (.attachMinmax pin 1000 2500) = .ok (.attachMinmax (BitVec.ofNat 8 pin) 1000 2500) ∧
    encode (.attach (BitVec.ofNat 8 pin)) ≠ encode (.attachMinmax (BitVec.ofNat 8 pin) 1000 2500))
end

