-- ==== Sys2Proof/Laws/State.lean ====
section
/-! SUPPORT. The small lemmas of the state: reads after writes of a pair, and one lemma a field for each named write. -/

namespace Sys2Proof

variable {α : Type}

@[simp] theorem PerUnit.get_a (p : PerUnit α) : p.get .a = p.a := rfl
@[simp] theorem PerUnit.get_b (p : PerUnit α) : p.get .b = p.b := rfl
@[simp] theorem PerUnit.get_both (v : α) (u : CompareUnit) : (PerUnit.both v).get u = v := by cases u <;> rfl

@[simp] theorem PerUnit.get_set_self (p : PerUnit α) (u : CompareUnit) (v : α) : (p.set u v).get u = v := by
  cases u <;> rfl

theorem PerUnit.get_set_ne (p : PerUnit α) {u t : CompareUnit} (v : α) (h : t ≠ u) : (p.set u v).get t = p.get t := by
  cases u <;> cases t <;> first | rfl | exact absurd rfl h

/-- The one case split that a write of a pair needs. -/
theorem PerUnit.get_set (p : PerUnit α) (u t : CompareUnit) (v : α) :
    (p.set u v).get t = if t = u then v else p.get t := by
  cases u <;> cases t <;> rfl

@[simp] theorem PerUnit.get_set_other (p : PerUnit α) (u : CompareUnit) (v : α) :
    (p.set u v).get u.other = p.get u.other := by
  cases u <;> rfl

@[simp] theorem PerUnit.set_get (p : PerUnit α) (u : CompareUnit) : p.set u (p.get u) = p := by
  cases u <;> rfl

@[simp] theorem PerUnit.set_set (p : PerUnit α) (u : CompareUnit) (v w : α) : (p.set u v).set u w = p.set u w := by
  cases u <;> rfl

theorem PerUnit.ext_get {p q : PerUnit α} (h : ∀ u, p.get u = q.get u) : p = q := by
  cases p; cases q
  exact congrArg₂ PerUnit.mk (h .a) (h .b)

theorem CompareUnit.other_ne (u : CompareUnit) : u.other ≠ u := by cases u <;> exact CompareUnit.noConfusion

theorem CompareUnit.eq_or_other (u t : CompareUnit) : t = u ∨ t = u.other := by
  cases u <;> cases t <;> simp [CompareUnit.other]

namespace Machine

@[simp] theorem setSlot_slot (u : CompareUnit) (c : Channel) (s : State) : (setSlot u c s).slot = s.slot.set u (some c) := rfl
@[simp] theorem setSlot_cnt (u : CompareUnit) (c : Channel) (s : State) : (setSlot u c s).cnt = s.cnt := rfl
@[simp] theorem setSlot_top (u : CompareUnit) (c : Channel) (s : State) : (setSlot u c s).top = s.top := rfl
@[simp] theorem setSlot_wgm (u : CompareUnit) (c : Channel) (s : State) : (setSlot u c s).wgm = s.wgm := rfl
@[simp] theorem setSlot_cs (u : CompareUnit) (c : Channel) (s : State) : (setSlot u c s).cs = s.cs := rfl
@[simp] theorem setSlot_com (u : CompareUnit) (c : Channel) (s : State) : (setSlot u c s).com = s.com := rfl
@[simp] theorem setSlot_ocie (u : CompareUnit) (c : Channel) (s : State) : (setSlot u c s).ocie = s.ocie := rfl
@[simp] theorem setSlot_ocf (u : CompareUnit) (c : Channel) (s : State) : (setSlot u c s).ocf = s.ocf := rfl
@[simp] theorem setSlot_ocr (u : CompareUnit) (c : Channel) (s : State) : (setSlot u c s).ocr = s.ocr := rfl
@[simp] theorem setSlot_ocrAct (u : CompareUnit) (c : Channel) (s : State) : (setSlot u c s).ocrAct = s.ocrAct := rfl
@[simp] theorem setSlot_iflag (u : CompareUnit) (c : Channel) (s : State) : (setSlot u c s).iflag = s.iflag := rfl
@[simp] theorem setSlot_hostStatus (u : CompareUnit) (c : Channel) (s : State) : (setSlot u c s).hostStatus = s.hostStatus := rfl
@[simp] theorem setSlot_dir (u : CompareUnit) (c : Channel) (s : State) : (setSlot u c s).dir = s.dir := rfl
@[simp] theorem setSlot_level (u : CompareUnit) (c : Channel) (s : State) : (setSlot u c s).level = s.level := rfl
@[simp] theorem setSlot_inflight (u : CompareUnit) (c : Channel) (s : State) : (setSlot u c s).inflight = s.inflight := rfl
@[simp] theorem setSlot_cfg (u : CompareUnit) (c : Channel) (s : State) : (setSlot u c s).cfg = s.cfg := rfl
@[simp] theorem setSlot_result (u : CompareUnit) (c : Channel) (s : State) : (setSlot u c s).result = s.result := rfl
@[simp] theorem setSlot_commands (u : CompareUnit) (c : Channel) (s : State) : (setSlot u c s).commands = s.commands := rfl
@[simp] theorem setSlot_turns (u : CompareUnit) (c : Channel) (s : State) : (setSlot u c s).turns = s.turns := rfl
@[simp] theorem setSlot_levelOpen (u : CompareUnit) (c : Channel) (s : State) : (setSlot u c s).levelOpen = s.levelOpen := rfl
@[simp] theorem setSlot_freeIndex (u : CompareUnit) (c : Channel) (s : State) : (setSlot u c s).freeIndex = s.freeIndex := rfl

@[simp] theorem setPulseCount_slot (u : CompareUnit) (v : Byte) (s : State) : (setPulseCount u v s).slot = s.slot.set u ((s.slot.get u).map fun c => { c with pulseCount := v }) := rfl
@[simp] theorem setPulseCount_cnt (u : CompareUnit) (v : Byte) (s : State) : (setPulseCount u v s).cnt = s.cnt := rfl
@[simp] theorem setPulseCount_top (u : CompareUnit) (v : Byte) (s : State) : (setPulseCount u v s).top = s.top := rfl
@[simp] theorem setPulseCount_wgm (u : CompareUnit) (v : Byte) (s : State) : (setPulseCount u v s).wgm = s.wgm := rfl
@[simp] theorem setPulseCount_cs (u : CompareUnit) (v : Byte) (s : State) : (setPulseCount u v s).cs = s.cs := rfl
@[simp] theorem setPulseCount_com (u : CompareUnit) (v : Byte) (s : State) : (setPulseCount u v s).com = s.com := rfl
@[simp] theorem setPulseCount_ocie (u : CompareUnit) (v : Byte) (s : State) : (setPulseCount u v s).ocie = s.ocie := rfl
@[simp] theorem setPulseCount_ocf (u : CompareUnit) (v : Byte) (s : State) : (setPulseCount u v s).ocf = s.ocf := rfl
@[simp] theorem setPulseCount_ocr (u : CompareUnit) (v : Byte) (s : State) : (setPulseCount u v s).ocr = s.ocr := rfl
@[simp] theorem setPulseCount_ocrAct (u : CompareUnit) (v : Byte) (s : State) : (setPulseCount u v s).ocrAct = s.ocrAct := rfl
@[simp] theorem setPulseCount_iflag (u : CompareUnit) (v : Byte) (s : State) : (setPulseCount u v s).iflag = s.iflag := rfl
@[simp] theorem setPulseCount_hostStatus (u : CompareUnit) (v : Byte) (s : State) : (setPulseCount u v s).hostStatus = s.hostStatus := rfl
@[simp] theorem setPulseCount_dir (u : CompareUnit) (v : Byte) (s : State) : (setPulseCount u v s).dir = s.dir := rfl
@[simp] theorem setPulseCount_level (u : CompareUnit) (v : Byte) (s : State) : (setPulseCount u v s).level = s.level := rfl
@[simp] theorem setPulseCount_inflight (u : CompareUnit) (v : Byte) (s : State) : (setPulseCount u v s).inflight = s.inflight := rfl
@[simp] theorem setPulseCount_cfg (u : CompareUnit) (v : Byte) (s : State) : (setPulseCount u v s).cfg = s.cfg := rfl
@[simp] theorem setPulseCount_result (u : CompareUnit) (v : Byte) (s : State) : (setPulseCount u v s).result = s.result := rfl
@[simp] theorem setPulseCount_commands (u : CompareUnit) (v : Byte) (s : State) : (setPulseCount u v s).commands = s.commands := rfl
@[simp] theorem setPulseCount_turns (u : CompareUnit) (v : Byte) (s : State) : (setPulseCount u v s).turns = s.turns := rfl
@[simp] theorem setPulseCount_levelOpen (u : CompareUnit) (v : Byte) (s : State) : (setPulseCount u v s).levelOpen = s.levelOpen := rfl
@[simp] theorem setPulseCount_freeIndex (u : CompareUnit) (v : Byte) (s : State) : (setPulseCount u v s).freeIndex = s.freeIndex := rfl

@[simp] theorem setCnt_slot (v : Half) (s : State) : (setCnt v s).slot = s.slot := rfl
@[simp] theorem setCnt_cnt (v : Half) (s : State) : (setCnt v s).cnt = v := rfl
@[simp] theorem setCnt_top (v : Half) (s : State) : (setCnt v s).top = s.top := rfl
@[simp] theorem setCnt_wgm (v : Half) (s : State) : (setCnt v s).wgm = s.wgm := rfl
@[simp] theorem setCnt_cs (v : Half) (s : State) : (setCnt v s).cs = s.cs := rfl
@[simp] theorem setCnt_com (v : Half) (s : State) : (setCnt v s).com = s.com := rfl
@[simp] theorem setCnt_ocie (v : Half) (s : State) : (setCnt v s).ocie = s.ocie := rfl
@[simp] theorem setCnt_ocf (v : Half) (s : State) : (setCnt v s).ocf = s.ocf := rfl
@[simp] theorem setCnt_ocr (v : Half) (s : State) : (setCnt v s).ocr = s.ocr := rfl
@[simp] theorem setCnt_ocrAct (v : Half) (s : State) : (setCnt v s).ocrAct = s.ocrAct := rfl
@[simp] theorem setCnt_iflag (v : Half) (s : State) : (setCnt v s).iflag = s.iflag := rfl
@[simp] theorem setCnt_hostStatus (v : Half) (s : State) : (setCnt v s).hostStatus = s.hostStatus := rfl
@[simp] theorem setCnt_dir (v : Half) (s : State) : (setCnt v s).dir = s.dir := rfl
@[simp] theorem setCnt_level (v : Half) (s : State) : (setCnt v s).level = s.level := rfl
@[simp] theorem setCnt_inflight (v : Half) (s : State) : (setCnt v s).inflight = s.inflight := rfl
@[simp] theorem setCnt_cfg (v : Half) (s : State) : (setCnt v s).cfg = s.cfg := rfl
@[simp] theorem setCnt_result (v : Half) (s : State) : (setCnt v s).result = s.result := rfl
@[simp] theorem setCnt_commands (v : Half) (s : State) : (setCnt v s).commands = s.commands := rfl
@[simp] theorem setCnt_turns (v : Half) (s : State) : (setCnt v s).turns = s.turns := rfl
@[simp] theorem setCnt_levelOpen (v : Half) (s : State) : (setCnt v s).levelOpen = s.levelOpen := rfl
@[simp] theorem setCnt_freeIndex (v : Half) (s : State) : (setCnt v s).freeIndex = s.freeIndex := rfl

@[simp] theorem setTop_slot (v : Half) (s : State) : (setTop v s).slot = s.slot := rfl
@[simp] theorem setTop_cnt (v : Half) (s : State) : (setTop v s).cnt = s.cnt := rfl
@[simp] theorem setTop_top (v : Half) (s : State) : (setTop v s).top = v := rfl
@[simp] theorem setTop_wgm (v : Half) (s : State) : (setTop v s).wgm = s.wgm := rfl
@[simp] theorem setTop_cs (v : Half) (s : State) : (setTop v s).cs = s.cs := rfl
@[simp] theorem setTop_com (v : Half) (s : State) : (setTop v s).com = s.com := rfl
@[simp] theorem setTop_ocie (v : Half) (s : State) : (setTop v s).ocie = s.ocie := rfl
@[simp] theorem setTop_ocf (v : Half) (s : State) : (setTop v s).ocf = s.ocf := rfl
@[simp] theorem setTop_ocr (v : Half) (s : State) : (setTop v s).ocr = s.ocr := rfl
@[simp] theorem setTop_ocrAct (v : Half) (s : State) : (setTop v s).ocrAct = s.ocrAct := rfl
@[simp] theorem setTop_iflag (v : Half) (s : State) : (setTop v s).iflag = s.iflag := rfl
@[simp] theorem setTop_hostStatus (v : Half) (s : State) : (setTop v s).hostStatus = s.hostStatus := rfl
@[simp] theorem setTop_dir (v : Half) (s : State) : (setTop v s).dir = s.dir := rfl
@[simp] theorem setTop_level (v : Half) (s : State) : (setTop v s).level = s.level := rfl
@[simp] theorem setTop_inflight (v : Half) (s : State) : (setTop v s).inflight = s.inflight := rfl
@[simp] theorem setTop_cfg (v : Half) (s : State) : (setTop v s).cfg = s.cfg := rfl
@[simp] theorem setTop_result (v : Half) (s : State) : (setTop v s).result = s.result := rfl
@[simp] theorem setTop_commands (v : Half) (s : State) : (setTop v s).commands = s.commands := rfl
@[simp] theorem setTop_turns (v : Half) (s : State) : (setTop v s).turns = s.turns := rfl
@[simp] theorem setTop_levelOpen (v : Half) (s : State) : (setTop v s).levelOpen = s.levelOpen := rfl
@[simp] theorem setTop_freeIndex (v : Half) (s : State) : (setTop v s).freeIndex = s.freeIndex := rfl

@[simp] theorem setWgm_slot (v : BitVec 4) (s : State) : (setWgm v s).slot = s.slot := rfl
@[simp] theorem setWgm_cnt (v : BitVec 4) (s : State) : (setWgm v s).cnt = s.cnt := rfl
@[simp] theorem setWgm_top (v : BitVec 4) (s : State) : (setWgm v s).top = s.top := rfl
@[simp] theorem setWgm_wgm (v : BitVec 4) (s : State) : (setWgm v s).wgm = v := rfl
@[simp] theorem setWgm_cs (v : BitVec 4) (s : State) : (setWgm v s).cs = s.cs := rfl
@[simp] theorem setWgm_com (v : BitVec 4) (s : State) : (setWgm v s).com = s.com := rfl
@[simp] theorem setWgm_ocie (v : BitVec 4) (s : State) : (setWgm v s).ocie = s.ocie := rfl
@[simp] theorem setWgm_ocf (v : BitVec 4) (s : State) : (setWgm v s).ocf = s.ocf := rfl
@[simp] theorem setWgm_ocr (v : BitVec 4) (s : State) : (setWgm v s).ocr = s.ocr := rfl
@[simp] theorem setWgm_ocrAct (v : BitVec 4) (s : State) : (setWgm v s).ocrAct = s.ocrAct := rfl
@[simp] theorem setWgm_iflag (v : BitVec 4) (s : State) : (setWgm v s).iflag = s.iflag := rfl
@[simp] theorem setWgm_hostStatus (v : BitVec 4) (s : State) : (setWgm v s).hostStatus = s.hostStatus := rfl
@[simp] theorem setWgm_dir (v : BitVec 4) (s : State) : (setWgm v s).dir = s.dir := rfl
@[simp] theorem setWgm_level (v : BitVec 4) (s : State) : (setWgm v s).level = s.level := rfl
@[simp] theorem setWgm_inflight (v : BitVec 4) (s : State) : (setWgm v s).inflight = s.inflight := rfl
@[simp] theorem setWgm_cfg (v : BitVec 4) (s : State) : (setWgm v s).cfg = s.cfg := rfl
@[simp] theorem setWgm_result (v : BitVec 4) (s : State) : (setWgm v s).result = s.result := rfl
@[simp] theorem setWgm_commands (v : BitVec 4) (s : State) : (setWgm v s).commands = s.commands := rfl
@[simp] theorem setWgm_turns (v : BitVec 4) (s : State) : (setWgm v s).turns = s.turns := rfl
@[simp] theorem setWgm_levelOpen (v : BitVec 4) (s : State) : (setWgm v s).levelOpen = s.levelOpen := rfl
@[simp] theorem setWgm_freeIndex (v : BitVec 4) (s : State) : (setWgm v s).freeIndex = s.freeIndex := rfl

@[simp] theorem setCs_slot (v : BitVec 3) (s : State) : (setCs v s).slot = s.slot := rfl
@[simp] theorem setCs_cnt (v : BitVec 3) (s : State) : (setCs v s).cnt = s.cnt := rfl
@[simp] theorem setCs_top (v : BitVec 3) (s : State) : (setCs v s).top = s.top := rfl
@[simp] theorem setCs_wgm (v : BitVec 3) (s : State) : (setCs v s).wgm = s.wgm := rfl
@[simp] theorem setCs_cs (v : BitVec 3) (s : State) : (setCs v s).cs = v := rfl
@[simp] theorem setCs_com (v : BitVec 3) (s : State) : (setCs v s).com = s.com := rfl
@[simp] theorem setCs_ocie (v : BitVec 3) (s : State) : (setCs v s).ocie = s.ocie := rfl
@[simp] theorem setCs_ocf (v : BitVec 3) (s : State) : (setCs v s).ocf = s.ocf := rfl
@[simp] theorem setCs_ocr (v : BitVec 3) (s : State) : (setCs v s).ocr = s.ocr := rfl
@[simp] theorem setCs_ocrAct (v : BitVec 3) (s : State) : (setCs v s).ocrAct = s.ocrAct := rfl
@[simp] theorem setCs_iflag (v : BitVec 3) (s : State) : (setCs v s).iflag = s.iflag := rfl
@[simp] theorem setCs_hostStatus (v : BitVec 3) (s : State) : (setCs v s).hostStatus = s.hostStatus := rfl
@[simp] theorem setCs_dir (v : BitVec 3) (s : State) : (setCs v s).dir = s.dir := rfl
@[simp] theorem setCs_level (v : BitVec 3) (s : State) : (setCs v s).level = s.level := rfl
@[simp] theorem setCs_inflight (v : BitVec 3) (s : State) : (setCs v s).inflight = s.inflight := rfl
@[simp] theorem setCs_cfg (v : BitVec 3) (s : State) : (setCs v s).cfg = s.cfg := rfl
@[simp] theorem setCs_result (v : BitVec 3) (s : State) : (setCs v s).result = s.result := rfl
@[simp] theorem setCs_commands (v : BitVec 3) (s : State) : (setCs v s).commands = s.commands := rfl
@[simp] theorem setCs_turns (v : BitVec 3) (s : State) : (setCs v s).turns = s.turns := rfl
@[simp] theorem setCs_levelOpen (v : BitVec 3) (s : State) : (setCs v s).levelOpen = s.levelOpen := rfl
@[simp] theorem setCs_freeIndex (v : BitVec 3) (s : State) : (setCs v s).freeIndex = s.freeIndex := rfl

@[simp] theorem setCom_slot (u : CompareUnit) (v : BitVec 2) (s : State) : (setCom u v s).slot = s.slot := rfl
@[simp] theorem setCom_cnt (u : CompareUnit) (v : BitVec 2) (s : State) : (setCom u v s).cnt = s.cnt := rfl
@[simp] theorem setCom_top (u : CompareUnit) (v : BitVec 2) (s : State) : (setCom u v s).top = s.top := rfl
@[simp] theorem setCom_wgm (u : CompareUnit) (v : BitVec 2) (s : State) : (setCom u v s).wgm = s.wgm := rfl
@[simp] theorem setCom_cs (u : CompareUnit) (v : BitVec 2) (s : State) : (setCom u v s).cs = s.cs := rfl
@[simp] theorem setCom_com (u : CompareUnit) (v : BitVec 2) (s : State) : (setCom u v s).com = s.com.set u v := rfl
@[simp] theorem setCom_ocie (u : CompareUnit) (v : BitVec 2) (s : State) : (setCom u v s).ocie = s.ocie := rfl
@[simp] theorem setCom_ocf (u : CompareUnit) (v : BitVec 2) (s : State) : (setCom u v s).ocf = s.ocf := rfl
@[simp] theorem setCom_ocr (u : CompareUnit) (v : BitVec 2) (s : State) : (setCom u v s).ocr = s.ocr := rfl
@[simp] theorem setCom_ocrAct (u : CompareUnit) (v : BitVec 2) (s : State) : (setCom u v s).ocrAct = s.ocrAct := rfl
@[simp] theorem setCom_iflag (u : CompareUnit) (v : BitVec 2) (s : State) : (setCom u v s).iflag = s.iflag := rfl
@[simp] theorem setCom_hostStatus (u : CompareUnit) (v : BitVec 2) (s : State) : (setCom u v s).hostStatus = s.hostStatus := rfl
@[simp] theorem setCom_dir (u : CompareUnit) (v : BitVec 2) (s : State) : (setCom u v s).dir = s.dir := rfl
@[simp] theorem setCom_level (u : CompareUnit) (v : BitVec 2) (s : State) : (setCom u v s).level = s.level := rfl
@[simp] theorem setCom_inflight (u : CompareUnit) (v : BitVec 2) (s : State) : (setCom u v s).inflight = s.inflight := rfl
@[simp] theorem setCom_cfg (u : CompareUnit) (v : BitVec 2) (s : State) : (setCom u v s).cfg = s.cfg := rfl
@[simp] theorem setCom_result (u : CompareUnit) (v : BitVec 2) (s : State) : (setCom u v s).result = s.result := rfl
@[simp] theorem setCom_commands (u : CompareUnit) (v : BitVec 2) (s : State) : (setCom u v s).commands = s.commands := rfl
@[simp] theorem setCom_turns (u : CompareUnit) (v : BitVec 2) (s : State) : (setCom u v s).turns = s.turns := rfl
@[simp] theorem setCom_levelOpen (u : CompareUnit) (v : BitVec 2) (s : State) : (setCom u v s).levelOpen = s.levelOpen := rfl
@[simp] theorem setCom_freeIndex (u : CompareUnit) (v : BitVec 2) (s : State) : (setCom u v s).freeIndex = s.freeIndex := rfl

@[simp] theorem setOcie_slot (u : CompareUnit) (v : Bool) (s : State) : (setOcie u v s).slot = s.slot := rfl
@[simp] theorem setOcie_cnt (u : CompareUnit) (v : Bool) (s : State) : (setOcie u v s).cnt = s.cnt := rfl
@[simp] theorem setOcie_top (u : CompareUnit) (v : Bool) (s : State) : (setOcie u v s).top = s.top := rfl
@[simp] theorem setOcie_wgm (u : CompareUnit) (v : Bool) (s : State) : (setOcie u v s).wgm = s.wgm := rfl
@[simp] theorem setOcie_cs (u : CompareUnit) (v : Bool) (s : State) : (setOcie u v s).cs = s.cs := rfl
@[simp] theorem setOcie_com (u : CompareUnit) (v : Bool) (s : State) : (setOcie u v s).com = s.com := rfl
@[simp] theorem setOcie_ocie (u : CompareUnit) (v : Bool) (s : State) : (setOcie u v s).ocie = s.ocie.set u v := rfl
@[simp] theorem setOcie_ocf (u : CompareUnit) (v : Bool) (s : State) : (setOcie u v s).ocf = s.ocf := rfl
@[simp] theorem setOcie_ocr (u : CompareUnit) (v : Bool) (s : State) : (setOcie u v s).ocr = s.ocr := rfl
@[simp] theorem setOcie_ocrAct (u : CompareUnit) (v : Bool) (s : State) : (setOcie u v s).ocrAct = s.ocrAct := rfl
@[simp] theorem setOcie_iflag (u : CompareUnit) (v : Bool) (s : State) : (setOcie u v s).iflag = s.iflag := rfl
@[simp] theorem setOcie_hostStatus (u : CompareUnit) (v : Bool) (s : State) : (setOcie u v s).hostStatus = s.hostStatus := rfl
@[simp] theorem setOcie_dir (u : CompareUnit) (v : Bool) (s : State) : (setOcie u v s).dir = s.dir := rfl
@[simp] theorem setOcie_level (u : CompareUnit) (v : Bool) (s : State) : (setOcie u v s).level = s.level := rfl
@[simp] theorem setOcie_inflight (u : CompareUnit) (v : Bool) (s : State) : (setOcie u v s).inflight = s.inflight := rfl
@[simp] theorem setOcie_cfg (u : CompareUnit) (v : Bool) (s : State) : (setOcie u v s).cfg = s.cfg := rfl
@[simp] theorem setOcie_result (u : CompareUnit) (v : Bool) (s : State) : (setOcie u v s).result = s.result := rfl
@[simp] theorem setOcie_commands (u : CompareUnit) (v : Bool) (s : State) : (setOcie u v s).commands = s.commands := rfl
@[simp] theorem setOcie_turns (u : CompareUnit) (v : Bool) (s : State) : (setOcie u v s).turns = s.turns := rfl
@[simp] theorem setOcie_levelOpen (u : CompareUnit) (v : Bool) (s : State) : (setOcie u v s).levelOpen = s.levelOpen := rfl
@[simp] theorem setOcie_freeIndex (u : CompareUnit) (v : Bool) (s : State) : (setOcie u v s).freeIndex = s.freeIndex := rfl

@[simp] theorem setOcf_slot (u : CompareUnit) (v : Bool) (s : State) : (setOcf u v s).slot = s.slot := rfl
@[simp] theorem setOcf_cnt (u : CompareUnit) (v : Bool) (s : State) : (setOcf u v s).cnt = s.cnt := rfl
@[simp] theorem setOcf_top (u : CompareUnit) (v : Bool) (s : State) : (setOcf u v s).top = s.top := rfl
@[simp] theorem setOcf_wgm (u : CompareUnit) (v : Bool) (s : State) : (setOcf u v s).wgm = s.wgm := rfl
@[simp] theorem setOcf_cs (u : CompareUnit) (v : Bool) (s : State) : (setOcf u v s).cs = s.cs := rfl
@[simp] theorem setOcf_com (u : CompareUnit) (v : Bool) (s : State) : (setOcf u v s).com = s.com := rfl
@[simp] theorem setOcf_ocie (u : CompareUnit) (v : Bool) (s : State) : (setOcf u v s).ocie = s.ocie := rfl
@[simp] theorem setOcf_ocf (u : CompareUnit) (v : Bool) (s : State) : (setOcf u v s).ocf = s.ocf.set u v := rfl
@[simp] theorem setOcf_ocr (u : CompareUnit) (v : Bool) (s : State) : (setOcf u v s).ocr = s.ocr := rfl
@[simp] theorem setOcf_ocrAct (u : CompareUnit) (v : Bool) (s : State) : (setOcf u v s).ocrAct = s.ocrAct := rfl
@[simp] theorem setOcf_iflag (u : CompareUnit) (v : Bool) (s : State) : (setOcf u v s).iflag = s.iflag := rfl
@[simp] theorem setOcf_hostStatus (u : CompareUnit) (v : Bool) (s : State) : (setOcf u v s).hostStatus = s.hostStatus := rfl
@[simp] theorem setOcf_dir (u : CompareUnit) (v : Bool) (s : State) : (setOcf u v s).dir = s.dir := rfl
@[simp] theorem setOcf_level (u : CompareUnit) (v : Bool) (s : State) : (setOcf u v s).level = s.level := rfl
@[simp] theorem setOcf_inflight (u : CompareUnit) (v : Bool) (s : State) : (setOcf u v s).inflight = s.inflight := rfl
@[simp] theorem setOcf_cfg (u : CompareUnit) (v : Bool) (s : State) : (setOcf u v s).cfg = s.cfg := rfl
@[simp] theorem setOcf_result (u : CompareUnit) (v : Bool) (s : State) : (setOcf u v s).result = s.result := rfl
@[simp] theorem setOcf_commands (u : CompareUnit) (v : Bool) (s : State) : (setOcf u v s).commands = s.commands := rfl
@[simp] theorem setOcf_turns (u : CompareUnit) (v : Bool) (s : State) : (setOcf u v s).turns = s.turns := rfl
@[simp] theorem setOcf_levelOpen (u : CompareUnit) (v : Bool) (s : State) : (setOcf u v s).levelOpen = s.levelOpen := rfl
@[simp] theorem setOcf_freeIndex (u : CompareUnit) (v : Bool) (s : State) : (setOcf u v s).freeIndex = s.freeIndex := rfl

@[simp] theorem setOcr_slot (u : CompareUnit) (w : Half) (s : State) : (setOcr u w s).slot = s.slot := rfl
@[simp] theorem setOcr_cnt (u : CompareUnit) (w : Half) (s : State) : (setOcr u w s).cnt = s.cnt := rfl
@[simp] theorem setOcr_top (u : CompareUnit) (w : Half) (s : State) : (setOcr u w s).top = s.top := rfl
@[simp] theorem setOcr_wgm (u : CompareUnit) (w : Half) (s : State) : (setOcr u w s).wgm = s.wgm := rfl
@[simp] theorem setOcr_cs (u : CompareUnit) (w : Half) (s : State) : (setOcr u w s).cs = s.cs := rfl
@[simp] theorem setOcr_com (u : CompareUnit) (w : Half) (s : State) : (setOcr u w s).com = s.com := rfl
@[simp] theorem setOcr_ocie (u : CompareUnit) (w : Half) (s : State) : (setOcr u w s).ocie = s.ocie := rfl
@[simp] theorem setOcr_ocf (u : CompareUnit) (w : Half) (s : State) : (setOcr u w s).ocf = s.ocf := rfl
@[simp] theorem setOcr_ocr (u : CompareUnit) (w : Half) (s : State) : (setOcr u w s).ocr = s.ocr.set u w := rfl
@[simp] theorem setOcr_ocrAct (u : CompareUnit) (w : Half) (s : State) : (setOcr u w s).ocrAct = bif s.cfg.ocrUpdate == .immediate then s.ocrAct.set u w else s.ocrAct := rfl
@[simp] theorem setOcr_iflag (u : CompareUnit) (w : Half) (s : State) : (setOcr u w s).iflag = s.iflag := rfl
@[simp] theorem setOcr_hostStatus (u : CompareUnit) (w : Half) (s : State) : (setOcr u w s).hostStatus = s.hostStatus := rfl
@[simp] theorem setOcr_dir (u : CompareUnit) (w : Half) (s : State) : (setOcr u w s).dir = s.dir := rfl
@[simp] theorem setOcr_level (u : CompareUnit) (w : Half) (s : State) : (setOcr u w s).level = s.level := rfl
@[simp] theorem setOcr_inflight (u : CompareUnit) (w : Half) (s : State) : (setOcr u w s).inflight = s.inflight := rfl
@[simp] theorem setOcr_cfg (u : CompareUnit) (w : Half) (s : State) : (setOcr u w s).cfg = s.cfg := rfl
@[simp] theorem setOcr_result (u : CompareUnit) (w : Half) (s : State) : (setOcr u w s).result = s.result := rfl
@[simp] theorem setOcr_commands (u : CompareUnit) (w : Half) (s : State) : (setOcr u w s).commands = s.commands := rfl
@[simp] theorem setOcr_turns (u : CompareUnit) (w : Half) (s : State) : (setOcr u w s).turns = s.turns := rfl
@[simp] theorem setOcr_levelOpen (u : CompareUnit) (w : Half) (s : State) : (setOcr u w s).levelOpen = s.levelOpen := rfl
@[simp] theorem setOcr_freeIndex (u : CompareUnit) (w : Half) (s : State) : (setOcr u w s).freeIndex = s.freeIndex := rfl

@[simp] theorem setOcrAct_slot (u : CompareUnit) (v : Half) (s : State) : (setOcrAct u v s).slot = s.slot := rfl
@[simp] theorem setOcrAct_cnt (u : CompareUnit) (v : Half) (s : State) : (setOcrAct u v s).cnt = s.cnt := rfl
@[simp] theorem setOcrAct_top (u : CompareUnit) (v : Half) (s : State) : (setOcrAct u v s).top = s.top := rfl
@[simp] theorem setOcrAct_wgm (u : CompareUnit) (v : Half) (s : State) : (setOcrAct u v s).wgm = s.wgm := rfl
@[simp] theorem setOcrAct_cs (u : CompareUnit) (v : Half) (s : State) : (setOcrAct u v s).cs = s.cs := rfl
@[simp] theorem setOcrAct_com (u : CompareUnit) (v : Half) (s : State) : (setOcrAct u v s).com = s.com := rfl
@[simp] theorem setOcrAct_ocie (u : CompareUnit) (v : Half) (s : State) : (setOcrAct u v s).ocie = s.ocie := rfl
@[simp] theorem setOcrAct_ocf (u : CompareUnit) (v : Half) (s : State) : (setOcrAct u v s).ocf = s.ocf := rfl
@[simp] theorem setOcrAct_ocr (u : CompareUnit) (v : Half) (s : State) : (setOcrAct u v s).ocr = s.ocr := rfl
@[simp] theorem setOcrAct_ocrAct (u : CompareUnit) (v : Half) (s : State) : (setOcrAct u v s).ocrAct = s.ocrAct.set u v := rfl
@[simp] theorem setOcrAct_iflag (u : CompareUnit) (v : Half) (s : State) : (setOcrAct u v s).iflag = s.iflag := rfl
@[simp] theorem setOcrAct_hostStatus (u : CompareUnit) (v : Half) (s : State) : (setOcrAct u v s).hostStatus = s.hostStatus := rfl
@[simp] theorem setOcrAct_dir (u : CompareUnit) (v : Half) (s : State) : (setOcrAct u v s).dir = s.dir := rfl
@[simp] theorem setOcrAct_level (u : CompareUnit) (v : Half) (s : State) : (setOcrAct u v s).level = s.level := rfl
@[simp] theorem setOcrAct_inflight (u : CompareUnit) (v : Half) (s : State) : (setOcrAct u v s).inflight = s.inflight := rfl
@[simp] theorem setOcrAct_cfg (u : CompareUnit) (v : Half) (s : State) : (setOcrAct u v s).cfg = s.cfg := rfl
@[simp] theorem setOcrAct_result (u : CompareUnit) (v : Half) (s : State) : (setOcrAct u v s).result = s.result := rfl
@[simp] theorem setOcrAct_commands (u : CompareUnit) (v : Half) (s : State) : (setOcrAct u v s).commands = s.commands := rfl
@[simp] theorem setOcrAct_turns (u : CompareUnit) (v : Half) (s : State) : (setOcrAct u v s).turns = s.turns := rfl
@[simp] theorem setOcrAct_levelOpen (u : CompareUnit) (v : Half) (s : State) : (setOcrAct u v s).levelOpen = s.levelOpen := rfl
@[simp] theorem setOcrAct_freeIndex (u : CompareUnit) (v : Half) (s : State) : (setOcrAct u v s).freeIndex = s.freeIndex := rfl

@[simp] theorem setIflag_slot (v : Bool) (s : State) : (setIflag v s).slot = s.slot := rfl
@[simp] theorem setIflag_cnt (v : Bool) (s : State) : (setIflag v s).cnt = s.cnt := rfl
@[simp] theorem setIflag_top (v : Bool) (s : State) : (setIflag v s).top = s.top := rfl
@[simp] theorem setIflag_wgm (v : Bool) (s : State) : (setIflag v s).wgm = s.wgm := rfl
@[simp] theorem setIflag_cs (v : Bool) (s : State) : (setIflag v s).cs = s.cs := rfl
@[simp] theorem setIflag_com (v : Bool) (s : State) : (setIflag v s).com = s.com := rfl
@[simp] theorem setIflag_ocie (v : Bool) (s : State) : (setIflag v s).ocie = s.ocie := rfl
@[simp] theorem setIflag_ocf (v : Bool) (s : State) : (setIflag v s).ocf = s.ocf := rfl
@[simp] theorem setIflag_ocr (v : Bool) (s : State) : (setIflag v s).ocr = s.ocr := rfl
@[simp] theorem setIflag_ocrAct (v : Bool) (s : State) : (setIflag v s).ocrAct = s.ocrAct := rfl
@[simp] theorem setIflag_iflag (v : Bool) (s : State) : (setIflag v s).iflag = v := rfl
@[simp] theorem setIflag_hostStatus (v : Bool) (s : State) : (setIflag v s).hostStatus = s.hostStatus := rfl
@[simp] theorem setIflag_dir (v : Bool) (s : State) : (setIflag v s).dir = s.dir := rfl
@[simp] theorem setIflag_level (v : Bool) (s : State) : (setIflag v s).level = s.level := rfl
@[simp] theorem setIflag_inflight (v : Bool) (s : State) : (setIflag v s).inflight = s.inflight := rfl
@[simp] theorem setIflag_cfg (v : Bool) (s : State) : (setIflag v s).cfg = s.cfg := rfl
@[simp] theorem setIflag_result (v : Bool) (s : State) : (setIflag v s).result = s.result := rfl
@[simp] theorem setIflag_commands (v : Bool) (s : State) : (setIflag v s).commands = s.commands := rfl
@[simp] theorem setIflag_turns (v : Bool) (s : State) : (setIflag v s).turns = s.turns := rfl
@[simp] theorem setIflag_levelOpen (v : Bool) (s : State) : (setIflag v s).levelOpen = s.levelOpen := rfl
@[simp] theorem setIflag_freeIndex (v : Bool) (s : State) : (setIflag v s).freeIndex = s.freeIndex := rfl

@[simp] theorem setHostStatus_slot (v : BitVec 7) (s : State) : (setHostStatus v s).slot = s.slot := rfl
@[simp] theorem setHostStatus_cnt (v : BitVec 7) (s : State) : (setHostStatus v s).cnt = s.cnt := rfl
@[simp] theorem setHostStatus_top (v : BitVec 7) (s : State) : (setHostStatus v s).top = s.top := rfl
@[simp] theorem setHostStatus_wgm (v : BitVec 7) (s : State) : (setHostStatus v s).wgm = s.wgm := rfl
@[simp] theorem setHostStatus_cs (v : BitVec 7) (s : State) : (setHostStatus v s).cs = s.cs := rfl
@[simp] theorem setHostStatus_com (v : BitVec 7) (s : State) : (setHostStatus v s).com = s.com := rfl
@[simp] theorem setHostStatus_ocie (v : BitVec 7) (s : State) : (setHostStatus v s).ocie = s.ocie := rfl
@[simp] theorem setHostStatus_ocf (v : BitVec 7) (s : State) : (setHostStatus v s).ocf = s.ocf := rfl
@[simp] theorem setHostStatus_ocr (v : BitVec 7) (s : State) : (setHostStatus v s).ocr = s.ocr := rfl
@[simp] theorem setHostStatus_ocrAct (v : BitVec 7) (s : State) : (setHostStatus v s).ocrAct = s.ocrAct := rfl
@[simp] theorem setHostStatus_iflag (v : BitVec 7) (s : State) : (setHostStatus v s).iflag = s.iflag := rfl
@[simp] theorem setHostStatus_hostStatus (v : BitVec 7) (s : State) : (setHostStatus v s).hostStatus = v := rfl
@[simp] theorem setHostStatus_dir (v : BitVec 7) (s : State) : (setHostStatus v s).dir = s.dir := rfl
@[simp] theorem setHostStatus_level (v : BitVec 7) (s : State) : (setHostStatus v s).level = s.level := rfl
@[simp] theorem setHostStatus_inflight (v : BitVec 7) (s : State) : (setHostStatus v s).inflight = s.inflight := rfl
@[simp] theorem setHostStatus_cfg (v : BitVec 7) (s : State) : (setHostStatus v s).cfg = s.cfg := rfl
@[simp] theorem setHostStatus_result (v : BitVec 7) (s : State) : (setHostStatus v s).result = s.result := rfl
@[simp] theorem setHostStatus_commands (v : BitVec 7) (s : State) : (setHostStatus v s).commands = s.commands := rfl
@[simp] theorem setHostStatus_turns (v : BitVec 7) (s : State) : (setHostStatus v s).turns = s.turns := rfl
@[simp] theorem setHostStatus_levelOpen (v : BitVec 7) (s : State) : (setHostStatus v s).levelOpen = s.levelOpen := rfl
@[simp] theorem setHostStatus_freeIndex (v : BitVec 7) (s : State) : (setHostStatus v s).freeIndex = s.freeIndex := rfl

@[simp] theorem setDir_slot (u : CompareUnit) (d : Direction) (s : State) : (setDir u d s).slot = s.slot := rfl
@[simp] theorem setDir_cnt (u : CompareUnit) (d : Direction) (s : State) : (setDir u d s).cnt = s.cnt := rfl
@[simp] theorem setDir_top (u : CompareUnit) (d : Direction) (s : State) : (setDir u d s).top = s.top := rfl
@[simp] theorem setDir_wgm (u : CompareUnit) (d : Direction) (s : State) : (setDir u d s).wgm = s.wgm := rfl
@[simp] theorem setDir_cs (u : CompareUnit) (d : Direction) (s : State) : (setDir u d s).cs = s.cs := rfl
@[simp] theorem setDir_com (u : CompareUnit) (d : Direction) (s : State) : (setDir u d s).com = s.com := rfl
@[simp] theorem setDir_ocie (u : CompareUnit) (d : Direction) (s : State) : (setDir u d s).ocie = s.ocie := rfl
@[simp] theorem setDir_ocf (u : CompareUnit) (d : Direction) (s : State) : (setDir u d s).ocf = s.ocf := rfl
@[simp] theorem setDir_ocr (u : CompareUnit) (d : Direction) (s : State) : (setDir u d s).ocr = s.ocr := rfl
@[simp] theorem setDir_ocrAct (u : CompareUnit) (d : Direction) (s : State) : (setDir u d s).ocrAct = s.ocrAct := rfl
@[simp] theorem setDir_iflag (u : CompareUnit) (d : Direction) (s : State) : (setDir u d s).iflag = s.iflag := rfl
@[simp] theorem setDir_hostStatus (u : CompareUnit) (d : Direction) (s : State) : (setDir u d s).hostStatus = s.hostStatus := rfl
@[simp] theorem setDir_dir (u : CompareUnit) (d : Direction) (s : State) : (setDir u d s).dir = s.dir.set u d := rfl
@[simp] theorem setDir_level (u : CompareUnit) (d : Direction) (s : State) : (setDir u d s).level = s.level := rfl
@[simp] theorem setDir_inflight (u : CompareUnit) (d : Direction) (s : State) : (setDir u d s).inflight = s.inflight := rfl
@[simp] theorem setDir_cfg (u : CompareUnit) (d : Direction) (s : State) : (setDir u d s).cfg = s.cfg := rfl
@[simp] theorem setDir_result (u : CompareUnit) (d : Direction) (s : State) : (setDir u d s).result = s.result := rfl
@[simp] theorem setDir_commands (u : CompareUnit) (d : Direction) (s : State) : (setDir u d s).commands = s.commands := rfl
@[simp] theorem setDir_turns (u : CompareUnit) (d : Direction) (s : State) : (setDir u d s).turns = s.turns := rfl
@[simp] theorem setDir_levelOpen (u : CompareUnit) (d : Direction) (s : State) : (setDir u d s).levelOpen = s.levelOpen := rfl
@[simp] theorem setDir_freeIndex (u : CompareUnit) (d : Direction) (s : State) : (setDir u d s).freeIndex = s.freeIndex := rfl

@[simp] theorem setLevel_slot (u : CompareUnit) (v : Bool) (s : State) : (setLevel u v s).slot = s.slot := rfl
@[simp] theorem setLevel_cnt (u : CompareUnit) (v : Bool) (s : State) : (setLevel u v s).cnt = s.cnt := rfl
@[simp] theorem setLevel_top (u : CompareUnit) (v : Bool) (s : State) : (setLevel u v s).top = s.top := rfl
@[simp] theorem setLevel_wgm (u : CompareUnit) (v : Bool) (s : State) : (setLevel u v s).wgm = s.wgm := rfl
@[simp] theorem setLevel_cs (u : CompareUnit) (v : Bool) (s : State) : (setLevel u v s).cs = s.cs := rfl
@[simp] theorem setLevel_com (u : CompareUnit) (v : Bool) (s : State) : (setLevel u v s).com = s.com := rfl
@[simp] theorem setLevel_ocie (u : CompareUnit) (v : Bool) (s : State) : (setLevel u v s).ocie = s.ocie := rfl
@[simp] theorem setLevel_ocf (u : CompareUnit) (v : Bool) (s : State) : (setLevel u v s).ocf = s.ocf := rfl
@[simp] theorem setLevel_ocr (u : CompareUnit) (v : Bool) (s : State) : (setLevel u v s).ocr = s.ocr := rfl
@[simp] theorem setLevel_ocrAct (u : CompareUnit) (v : Bool) (s : State) : (setLevel u v s).ocrAct = s.ocrAct := rfl
@[simp] theorem setLevel_iflag (u : CompareUnit) (v : Bool) (s : State) : (setLevel u v s).iflag = s.iflag := rfl
@[simp] theorem setLevel_hostStatus (u : CompareUnit) (v : Bool) (s : State) : (setLevel u v s).hostStatus = s.hostStatus := rfl
@[simp] theorem setLevel_dir (u : CompareUnit) (v : Bool) (s : State) : (setLevel u v s).dir = s.dir := rfl
@[simp] theorem setLevel_level (u : CompareUnit) (v : Bool) (s : State) : (setLevel u v s).level = s.level.set u v := rfl
@[simp] theorem setLevel_inflight (u : CompareUnit) (v : Bool) (s : State) : (setLevel u v s).inflight = s.inflight := rfl
@[simp] theorem setLevel_cfg (u : CompareUnit) (v : Bool) (s : State) : (setLevel u v s).cfg = s.cfg := rfl
@[simp] theorem setLevel_result (u : CompareUnit) (v : Bool) (s : State) : (setLevel u v s).result = s.result := rfl
@[simp] theorem setLevel_commands (u : CompareUnit) (v : Bool) (s : State) : (setLevel u v s).commands = s.commands := rfl
@[simp] theorem setLevel_turns (u : CompareUnit) (v : Bool) (s : State) : (setLevel u v s).turns = s.turns := rfl
@[simp] theorem setLevel_levelOpen (u : CompareUnit) (v : Bool) (s : State) : (setLevel u v s).levelOpen = s.levelOpen := rfl
@[simp] theorem setLevel_freeIndex (u : CompareUnit) (v : Bool) (s : State) : (setLevel u v s).freeIndex = s.freeIndex := rfl

@[simp] theorem setInflight_slot (f : Option Inflight) (s : State) : (setInflight f s).slot = s.slot := rfl
@[simp] theorem setInflight_cnt (f : Option Inflight) (s : State) : (setInflight f s).cnt = s.cnt := rfl
@[simp] theorem setInflight_top (f : Option Inflight) (s : State) : (setInflight f s).top = s.top := rfl
@[simp] theorem setInflight_wgm (f : Option Inflight) (s : State) : (setInflight f s).wgm = s.wgm := rfl
@[simp] theorem setInflight_cs (f : Option Inflight) (s : State) : (setInflight f s).cs = s.cs := rfl
@[simp] theorem setInflight_com (f : Option Inflight) (s : State) : (setInflight f s).com = s.com := rfl
@[simp] theorem setInflight_ocie (f : Option Inflight) (s : State) : (setInflight f s).ocie = s.ocie := rfl
@[simp] theorem setInflight_ocf (f : Option Inflight) (s : State) : (setInflight f s).ocf = s.ocf := rfl
@[simp] theorem setInflight_ocr (f : Option Inflight) (s : State) : (setInflight f s).ocr = s.ocr := rfl
@[simp] theorem setInflight_ocrAct (f : Option Inflight) (s : State) : (setInflight f s).ocrAct = s.ocrAct := rfl
@[simp] theorem setInflight_iflag (f : Option Inflight) (s : State) : (setInflight f s).iflag = s.iflag := rfl
@[simp] theorem setInflight_hostStatus (f : Option Inflight) (s : State) : (setInflight f s).hostStatus = s.hostStatus := rfl
@[simp] theorem setInflight_dir (f : Option Inflight) (s : State) : (setInflight f s).dir = s.dir := rfl
@[simp] theorem setInflight_level (f : Option Inflight) (s : State) : (setInflight f s).level = s.level := rfl
@[simp] theorem setInflight_inflight (f : Option Inflight) (s : State) : (setInflight f s).inflight = f := rfl
@[simp] theorem setInflight_cfg (f : Option Inflight) (s : State) : (setInflight f s).cfg = s.cfg := rfl
@[simp] theorem setInflight_result (f : Option Inflight) (s : State) : (setInflight f s).result = s.result := rfl
@[simp] theorem setInflight_commands (f : Option Inflight) (s : State) : (setInflight f s).commands = s.commands := rfl
@[simp] theorem setInflight_turns (f : Option Inflight) (s : State) : (setInflight f s).turns = s.turns := rfl
@[simp] theorem setInflight_levelOpen (f : Option Inflight) (s : State) : (setInflight f s).levelOpen = s.levelOpen := rfl
@[simp] theorem setInflight_freeIndex (f : Option Inflight) (s : State) : (setInflight f s).freeIndex = s.freeIndex := rfl

@[simp] theorem setResult_slot (r : Option ResultCode) (s : State) : (setResult r s).slot = s.slot := rfl
@[simp] theorem setResult_cnt (r : Option ResultCode) (s : State) : (setResult r s).cnt = s.cnt := rfl
@[simp] theorem setResult_top (r : Option ResultCode) (s : State) : (setResult r s).top = s.top := rfl
@[simp] theorem setResult_wgm (r : Option ResultCode) (s : State) : (setResult r s).wgm = s.wgm := rfl
@[simp] theorem setResult_cs (r : Option ResultCode) (s : State) : (setResult r s).cs = s.cs := rfl
@[simp] theorem setResult_com (r : Option ResultCode) (s : State) : (setResult r s).com = s.com := rfl
@[simp] theorem setResult_ocie (r : Option ResultCode) (s : State) : (setResult r s).ocie = s.ocie := rfl
@[simp] theorem setResult_ocf (r : Option ResultCode) (s : State) : (setResult r s).ocf = s.ocf := rfl
@[simp] theorem setResult_ocr (r : Option ResultCode) (s : State) : (setResult r s).ocr = s.ocr := rfl
@[simp] theorem setResult_ocrAct (r : Option ResultCode) (s : State) : (setResult r s).ocrAct = s.ocrAct := rfl
@[simp] theorem setResult_iflag (r : Option ResultCode) (s : State) : (setResult r s).iflag = s.iflag := rfl
@[simp] theorem setResult_hostStatus (r : Option ResultCode) (s : State) : (setResult r s).hostStatus = s.hostStatus := rfl
@[simp] theorem setResult_dir (r : Option ResultCode) (s : State) : (setResult r s).dir = s.dir := rfl
@[simp] theorem setResult_level (r : Option ResultCode) (s : State) : (setResult r s).level = s.level := rfl
@[simp] theorem setResult_inflight (r : Option ResultCode) (s : State) : (setResult r s).inflight = s.inflight := rfl
@[simp] theorem setResult_cfg (r : Option ResultCode) (s : State) : (setResult r s).cfg = s.cfg := rfl
@[simp] theorem setResult_result (r : Option ResultCode) (s : State) : (setResult r s).result = r := rfl
@[simp] theorem setResult_commands (r : Option ResultCode) (s : State) : (setResult r s).commands = s.commands := rfl
@[simp] theorem setResult_turns (r : Option ResultCode) (s : State) : (setResult r s).turns = s.turns := rfl
@[simp] theorem setResult_levelOpen (r : Option ResultCode) (s : State) : (setResult r s).levelOpen = s.levelOpen := rfl
@[simp] theorem setResult_freeIndex (r : Option ResultCode) (s : State) : (setResult r s).freeIndex = s.freeIndex := rfl

@[simp] theorem setLevelOpen_slot (u : CompareUnit) (v : Bool) (s : State) : (setLevelOpen u v s).slot = s.slot := rfl
@[simp] theorem setLevelOpen_cnt (u : CompareUnit) (v : Bool) (s : State) : (setLevelOpen u v s).cnt = s.cnt := rfl
@[simp] theorem setLevelOpen_top (u : CompareUnit) (v : Bool) (s : State) : (setLevelOpen u v s).top = s.top := rfl
@[simp] theorem setLevelOpen_wgm (u : CompareUnit) (v : Bool) (s : State) : (setLevelOpen u v s).wgm = s.wgm := rfl
@[simp] theorem setLevelOpen_cs (u : CompareUnit) (v : Bool) (s : State) : (setLevelOpen u v s).cs = s.cs := rfl
@[simp] theorem setLevelOpen_com (u : CompareUnit) (v : Bool) (s : State) : (setLevelOpen u v s).com = s.com := rfl
@[simp] theorem setLevelOpen_ocie (u : CompareUnit) (v : Bool) (s : State) : (setLevelOpen u v s).ocie = s.ocie := rfl
@[simp] theorem setLevelOpen_ocf (u : CompareUnit) (v : Bool) (s : State) : (setLevelOpen u v s).ocf = s.ocf := rfl
@[simp] theorem setLevelOpen_ocr (u : CompareUnit) (v : Bool) (s : State) : (setLevelOpen u v s).ocr = s.ocr := rfl
@[simp] theorem setLevelOpen_ocrAct (u : CompareUnit) (v : Bool) (s : State) : (setLevelOpen u v s).ocrAct = s.ocrAct := rfl
@[simp] theorem setLevelOpen_iflag (u : CompareUnit) (v : Bool) (s : State) : (setLevelOpen u v s).iflag = s.iflag := rfl
@[simp] theorem setLevelOpen_hostStatus (u : CompareUnit) (v : Bool) (s : State) : (setLevelOpen u v s).hostStatus = s.hostStatus := rfl
@[simp] theorem setLevelOpen_dir (u : CompareUnit) (v : Bool) (s : State) : (setLevelOpen u v s).dir = s.dir := rfl
@[simp] theorem setLevelOpen_level (u : CompareUnit) (v : Bool) (s : State) : (setLevelOpen u v s).level = s.level := rfl
@[simp] theorem setLevelOpen_inflight (u : CompareUnit) (v : Bool) (s : State) : (setLevelOpen u v s).inflight = s.inflight := rfl
@[simp] theorem setLevelOpen_cfg (u : CompareUnit) (v : Bool) (s : State) : (setLevelOpen u v s).cfg = s.cfg := rfl
@[simp] theorem setLevelOpen_result (u : CompareUnit) (v : Bool) (s : State) : (setLevelOpen u v s).result = s.result := rfl
@[simp] theorem setLevelOpen_commands (u : CompareUnit) (v : Bool) (s : State) : (setLevelOpen u v s).commands = s.commands := rfl
@[simp] theorem setLevelOpen_turns (u : CompareUnit) (v : Bool) (s : State) : (setLevelOpen u v s).turns = s.turns := rfl
@[simp] theorem setLevelOpen_levelOpen (u : CompareUnit) (v : Bool) (s : State) : (setLevelOpen u v s).levelOpen = s.levelOpen.set u v := rfl
@[simp] theorem setLevelOpen_freeIndex (u : CompareUnit) (v : Bool) (s : State) : (setLevelOpen u v s).freeIndex = s.freeIndex := rfl

end Machine

end Sys2Proof
end

