-- ==== Sys2Proof/Laws/Ops.lean ====
section
/-! SUPPORT. What each shared operation does, one lemma a field of the state: provers cite these and unfold no operation. -/

namespace Sys2Proof.Machine

/-! ### Critical sections, interrupts, results -/

@[simp] theorem enterCritical_slot (s : State) : (enterCritical s).slot = s.slot := rfl
@[simp] theorem enterCritical_cnt (s : State) : (enterCritical s).cnt = s.cnt := rfl
@[simp] theorem enterCritical_top (s : State) : (enterCritical s).top = s.top := rfl
@[simp] theorem enterCritical_wgm (s : State) : (enterCritical s).wgm = s.wgm := rfl
@[simp] theorem enterCritical_cs (s : State) : (enterCritical s).cs = s.cs := rfl
@[simp] theorem enterCritical_com (s : State) : (enterCritical s).com = s.com := rfl
@[simp] theorem enterCritical_ocie (s : State) : (enterCritical s).ocie = s.ocie := rfl
@[simp] theorem enterCritical_ocf (s : State) : (enterCritical s).ocf = s.ocf := rfl
@[simp] theorem enterCritical_ocr (s : State) : (enterCritical s).ocr = s.ocr := rfl
@[simp] theorem enterCritical_ocrAct (s : State) : (enterCritical s).ocrAct = s.ocrAct := rfl
@[simp] theorem enterCritical_iflag (s : State) : (enterCritical s).iflag = false := rfl
@[simp] theorem enterCritical_hostStatus (s : State) : (enterCritical s).hostStatus = s.hostStatus := rfl
@[simp] theorem enterCritical_dir (s : State) : (enterCritical s).dir = s.dir := rfl
@[simp] theorem enterCritical_level (s : State) : (enterCritical s).level = s.level := rfl
@[simp] theorem enterCritical_inflight (s : State) : (enterCritical s).inflight = s.inflight := rfl
@[simp] theorem enterCritical_cfg (s : State) : (enterCritical s).cfg = s.cfg := rfl
@[simp] theorem enterCritical_result (s : State) : (enterCritical s).result = s.result := rfl
@[simp] theorem enterCritical_commands (s : State) : (enterCritical s).commands = s.commands := rfl
@[simp] theorem enterCritical_turns (s : State) : (enterCritical s).turns = s.turns := rfl
@[simp] theorem enterCritical_levelOpen (s : State) : (enterCritical s).levelOpen = s.levelOpen := rfl
@[simp] theorem enterCritical_freeIndex (s : State) : (enterCritical s).freeIndex = s.freeIndex := rfl

@[simp] theorem leaveCritical_slot (s : State) : (leaveCritical s).slot = s.slot := rfl
@[simp] theorem leaveCritical_cnt (s : State) : (leaveCritical s).cnt = s.cnt := rfl
@[simp] theorem leaveCritical_top (s : State) : (leaveCritical s).top = s.top := rfl
@[simp] theorem leaveCritical_wgm (s : State) : (leaveCritical s).wgm = s.wgm := rfl
@[simp] theorem leaveCritical_cs (s : State) : (leaveCritical s).cs = s.cs := rfl
@[simp] theorem leaveCritical_com (s : State) : (leaveCritical s).com = s.com := rfl
@[simp] theorem leaveCritical_ocie (s : State) : (leaveCritical s).ocie = s.ocie := rfl
@[simp] theorem leaveCritical_ocf (s : State) : (leaveCritical s).ocf = s.ocf := rfl
@[simp] theorem leaveCritical_ocr (s : State) : (leaveCritical s).ocr = s.ocr := rfl
@[simp] theorem leaveCritical_ocrAct (s : State) : (leaveCritical s).ocrAct = s.ocrAct := rfl
@[simp] theorem leaveCritical_iflag (s : State) : (leaveCritical s).iflag = true := rfl
@[simp] theorem leaveCritical_hostStatus (s : State) : (leaveCritical s).hostStatus = s.hostStatus := rfl
@[simp] theorem leaveCritical_dir (s : State) : (leaveCritical s).dir = s.dir := rfl
@[simp] theorem leaveCritical_level (s : State) : (leaveCritical s).level = s.level := rfl
@[simp] theorem leaveCritical_inflight (s : State) : (leaveCritical s).inflight = s.inflight := rfl
@[simp] theorem leaveCritical_cfg (s : State) : (leaveCritical s).cfg = s.cfg := rfl
@[simp] theorem leaveCritical_result (s : State) : (leaveCritical s).result = s.result := rfl
@[simp] theorem leaveCritical_commands (s : State) : (leaveCritical s).commands = s.commands := rfl
@[simp] theorem leaveCritical_turns (s : State) : (leaveCritical s).turns = s.turns := rfl
@[simp] theorem leaveCritical_levelOpen (s : State) : (leaveCritical s).levelOpen = s.levelOpen := rfl
@[simp] theorem leaveCritical_freeIndex (s : State) : (leaveCritical s).freeIndex = s.freeIndex := rfl

@[simp] theorem takeInterrupt_slot (u : CompareUnit) (s : State) : (takeInterrupt u s).slot = s.slot := rfl
@[simp] theorem takeInterrupt_cnt (u : CompareUnit) (s : State) : (takeInterrupt u s).cnt = s.cnt := rfl
@[simp] theorem takeInterrupt_top (u : CompareUnit) (s : State) : (takeInterrupt u s).top = s.top := rfl
@[simp] theorem takeInterrupt_wgm (u : CompareUnit) (s : State) : (takeInterrupt u s).wgm = s.wgm := rfl
@[simp] theorem takeInterrupt_cs (u : CompareUnit) (s : State) : (takeInterrupt u s).cs = s.cs := rfl
@[simp] theorem takeInterrupt_com (u : CompareUnit) (s : State) : (takeInterrupt u s).com = s.com := rfl
@[simp] theorem takeInterrupt_ocie (u : CompareUnit) (s : State) : (takeInterrupt u s).ocie = s.ocie := rfl
@[simp] theorem takeInterrupt_ocf (u : CompareUnit) (s : State) : (takeInterrupt u s).ocf = s.ocf.set u false := rfl
@[simp] theorem takeInterrupt_ocr (u : CompareUnit) (s : State) : (takeInterrupt u s).ocr = s.ocr := rfl
@[simp] theorem takeInterrupt_ocrAct (u : CompareUnit) (s : State) : (takeInterrupt u s).ocrAct = s.ocrAct := rfl
@[simp] theorem takeInterrupt_iflag (u : CompareUnit) (s : State) : (takeInterrupt u s).iflag = false := rfl
@[simp] theorem takeInterrupt_hostStatus (u : CompareUnit) (s : State) : (takeInterrupt u s).hostStatus = s.hostStatus := rfl
@[simp] theorem takeInterrupt_dir (u : CompareUnit) (s : State) : (takeInterrupt u s).dir = s.dir := rfl
@[simp] theorem takeInterrupt_level (u : CompareUnit) (s : State) : (takeInterrupt u s).level = s.level := rfl
@[simp] theorem takeInterrupt_inflight (u : CompareUnit) (s : State) : (takeInterrupt u s).inflight = s.inflight := rfl
@[simp] theorem takeInterrupt_cfg (u : CompareUnit) (s : State) : (takeInterrupt u s).cfg = s.cfg := rfl
@[simp] theorem takeInterrupt_result (u : CompareUnit) (s : State) : (takeInterrupt u s).result = s.result := rfl
@[simp] theorem takeInterrupt_commands (u : CompareUnit) (s : State) : (takeInterrupt u s).commands = s.commands := rfl
@[simp] theorem takeInterrupt_turns (u : CompareUnit) (s : State) : (takeInterrupt u s).turns = s.turns := rfl
@[simp] theorem takeInterrupt_levelOpen (u : CompareUnit) (s : State) : (takeInterrupt u s).levelOpen = s.levelOpen := rfl
@[simp] theorem takeInterrupt_freeIndex (u : CompareUnit) (s : State) : (takeInterrupt u s).freeIndex = s.freeIndex := rfl

@[simp] theorem returnFromInterrupt_slot (s : State) : (returnFromInterrupt s).slot = s.slot := rfl
@[simp] theorem returnFromInterrupt_cnt (s : State) : (returnFromInterrupt s).cnt = s.cnt := rfl
@[simp] theorem returnFromInterrupt_top (s : State) : (returnFromInterrupt s).top = s.top := rfl
@[simp] theorem returnFromInterrupt_wgm (s : State) : (returnFromInterrupt s).wgm = s.wgm := rfl
@[simp] theorem returnFromInterrupt_cs (s : State) : (returnFromInterrupt s).cs = s.cs := rfl
@[simp] theorem returnFromInterrupt_com (s : State) : (returnFromInterrupt s).com = s.com := rfl
@[simp] theorem returnFromInterrupt_ocie (s : State) : (returnFromInterrupt s).ocie = s.ocie := rfl
@[simp] theorem returnFromInterrupt_ocf (s : State) : (returnFromInterrupt s).ocf = s.ocf := rfl
@[simp] theorem returnFromInterrupt_ocr (s : State) : (returnFromInterrupt s).ocr = s.ocr := rfl
@[simp] theorem returnFromInterrupt_ocrAct (s : State) : (returnFromInterrupt s).ocrAct = s.ocrAct := rfl
@[simp] theorem returnFromInterrupt_iflag (s : State) : (returnFromInterrupt s).iflag = true := rfl
@[simp] theorem returnFromInterrupt_hostStatus (s : State) : (returnFromInterrupt s).hostStatus = s.hostStatus := rfl
@[simp] theorem returnFromInterrupt_dir (s : State) : (returnFromInterrupt s).dir = s.dir := rfl
@[simp] theorem returnFromInterrupt_level (s : State) : (returnFromInterrupt s).level = s.level := rfl
@[simp] theorem returnFromInterrupt_inflight (s : State) : (returnFromInterrupt s).inflight = s.inflight := rfl
@[simp] theorem returnFromInterrupt_cfg (s : State) : (returnFromInterrupt s).cfg = s.cfg := rfl
@[simp] theorem returnFromInterrupt_result (s : State) : (returnFromInterrupt s).result = s.result := rfl
@[simp] theorem returnFromInterrupt_commands (s : State) : (returnFromInterrupt s).commands = s.commands := rfl
@[simp] theorem returnFromInterrupt_turns (s : State) : (returnFromInterrupt s).turns = s.turns := rfl
@[simp] theorem returnFromInterrupt_levelOpen (s : State) : (returnFromInterrupt s).levelOpen = s.levelOpen := rfl
@[simp] theorem returnFromInterrupt_freeIndex (s : State) : (returnFromInterrupt s).freeIndex = s.freeIndex := rfl

@[simp] theorem reply_slot (r : ResultCode) (s : State) : (reply r s).slot = s.slot := rfl
@[simp] theorem reply_cnt (r : ResultCode) (s : State) : (reply r s).cnt = s.cnt := rfl
@[simp] theorem reply_top (r : ResultCode) (s : State) : (reply r s).top = s.top := rfl
@[simp] theorem reply_wgm (r : ResultCode) (s : State) : (reply r s).wgm = s.wgm := rfl
@[simp] theorem reply_cs (r : ResultCode) (s : State) : (reply r s).cs = s.cs := rfl
@[simp] theorem reply_com (r : ResultCode) (s : State) : (reply r s).com = s.com := rfl
@[simp] theorem reply_ocie (r : ResultCode) (s : State) : (reply r s).ocie = s.ocie := rfl
@[simp] theorem reply_ocf (r : ResultCode) (s : State) : (reply r s).ocf = s.ocf := rfl
@[simp] theorem reply_ocr (r : ResultCode) (s : State) : (reply r s).ocr = s.ocr := rfl
@[simp] theorem reply_ocrAct (r : ResultCode) (s : State) : (reply r s).ocrAct = s.ocrAct := rfl
@[simp] theorem reply_iflag (r : ResultCode) (s : State) : (reply r s).iflag = s.iflag := rfl
@[simp] theorem reply_hostStatus (r : ResultCode) (s : State) : (reply r s).hostStatus = s.hostStatus := rfl
@[simp] theorem reply_dir (r : ResultCode) (s : State) : (reply r s).dir = s.dir := rfl
@[simp] theorem reply_level (r : ResultCode) (s : State) : (reply r s).level = s.level := rfl
@[simp] theorem reply_inflight (r : ResultCode) (s : State) : (reply r s).inflight = s.inflight := rfl
@[simp] theorem reply_cfg (r : ResultCode) (s : State) : (reply r s).cfg = s.cfg := rfl
@[simp] theorem reply_result (r : ResultCode) (s : State) : (reply r s).result = some r := rfl
@[simp] theorem reply_commands (r : ResultCode) (s : State) : (reply r s).commands = s.commands := rfl
@[simp] theorem reply_turns (r : ResultCode) (s : State) : (reply r s).turns = s.turns := rfl
@[simp] theorem reply_levelOpen (r : ResultCode) (s : State) : (reply r s).levelOpen = s.levelOpen := rfl
@[simp] theorem reply_freeIndex (r : ResultCode) (s : State) : (reply r s).freeIndex = s.freeIndex := rfl

/-! ### CONNECT and DISCONNECT (rules R120, R121) -/

@[simp] theorem connect_slot (u : CompareUnit) (s : State) : (connect u s).slot = s.slot := by
  unfold connect
  cases h : s.cfg.connectClearsPending <;> simp [h]
@[simp] theorem connect_cnt (u : CompareUnit) (s : State) : (connect u s).cnt = s.cnt := by
  unfold connect
  cases h : s.cfg.connectClearsPending <;> simp [h]
@[simp] theorem connect_top (u : CompareUnit) (s : State) : (connect u s).top = s.top := by
  unfold connect
  cases h : s.cfg.connectClearsPending <;> simp [h]
@[simp] theorem connect_wgm (u : CompareUnit) (s : State) : (connect u s).wgm = s.wgm := by
  unfold connect
  cases h : s.cfg.connectClearsPending <;> simp [h]
@[simp] theorem connect_cs (u : CompareUnit) (s : State) : (connect u s).cs = s.cs := by
  unfold connect
  cases h : s.cfg.connectClearsPending <;> simp [h]
@[simp] theorem connect_com (u : CompareUnit) (s : State) : (connect u s).com = s.com.set u Config.comConnected := by
  unfold connect
  cases h : s.cfg.connectClearsPending <;> simp [h]
@[simp] theorem connect_ocie (u : CompareUnit) (s : State) : (connect u s).ocie = s.ocie.set u true := by
  unfold connect
  cases h : s.cfg.connectClearsPending <;> simp [h]
@[simp] theorem connect_ocf (u : CompareUnit) (s : State) : (connect u s).ocf = bif s.cfg.connectClearsPending then s.ocf.set u false else s.ocf := by
  unfold connect
  cases h : s.cfg.connectClearsPending <;> simp [h]
@[simp] theorem connect_ocr (u : CompareUnit) (s : State) : (connect u s).ocr = s.ocr := by
  unfold connect
  cases h : s.cfg.connectClearsPending <;> simp [h]
@[simp] theorem connect_ocrAct (u : CompareUnit) (s : State) : (connect u s).ocrAct = s.ocrAct := by
  unfold connect
  cases h : s.cfg.connectClearsPending <;> simp [h]
@[simp] theorem connect_iflag (u : CompareUnit) (s : State) : (connect u s).iflag = s.iflag := by
  unfold connect
  cases h : s.cfg.connectClearsPending <;> simp [h]
@[simp] theorem connect_hostStatus (u : CompareUnit) (s : State) : (connect u s).hostStatus = s.hostStatus := by
  unfold connect
  cases h : s.cfg.connectClearsPending <;> simp [h]
@[simp] theorem connect_dir (u : CompareUnit) (s : State) : (connect u s).dir = s.dir := by
  unfold connect
  cases h : s.cfg.connectClearsPending <;> simp [h]
@[simp] theorem connect_level (u : CompareUnit) (s : State) : (connect u s).level = s.level := by
  unfold connect
  cases h : s.cfg.connectClearsPending <;> simp [h]
@[simp] theorem connect_inflight (u : CompareUnit) (s : State) : (connect u s).inflight = s.inflight := by
  unfold connect
  cases h : s.cfg.connectClearsPending <;> simp [h]
@[simp] theorem connect_cfg (u : CompareUnit) (s : State) : (connect u s).cfg = s.cfg := by
  unfold connect
  cases h : s.cfg.connectClearsPending <;> simp [h]
@[simp] theorem connect_result (u : CompareUnit) (s : State) : (connect u s).result = s.result := by
  unfold connect
  cases h : s.cfg.connectClearsPending <;> simp [h]
@[simp] theorem connect_commands (u : CompareUnit) (s : State) : (connect u s).commands = s.commands := by
  unfold connect
  cases h : s.cfg.connectClearsPending <;> simp [h]
@[simp] theorem connect_turns (u : CompareUnit) (s : State) : (connect u s).turns = s.turns := by
  unfold connect
  cases h : s.cfg.connectClearsPending <;> simp [h]
@[simp] theorem connect_levelOpen (u : CompareUnit) (s : State) : (connect u s).levelOpen = s.levelOpen.set u true := by
  unfold connect
  cases h : s.cfg.connectClearsPending <;> simp [h]
@[simp] theorem connect_freeIndex (u : CompareUnit) (s : State) : (connect u s).freeIndex = s.freeIndex := by
  unfold connect
  cases h : s.cfg.connectClearsPending <;> simp [h]

@[simp] theorem disconnect_slot (u : CompareUnit) (s : State) : (disconnect u s).slot = s.slot := rfl
@[simp] theorem disconnect_cnt (u : CompareUnit) (s : State) : (disconnect u s).cnt = s.cnt := rfl
@[simp] theorem disconnect_top (u : CompareUnit) (s : State) : (disconnect u s).top = s.top := rfl
@[simp] theorem disconnect_wgm (u : CompareUnit) (s : State) : (disconnect u s).wgm = s.wgm := rfl
@[simp] theorem disconnect_cs (u : CompareUnit) (s : State) : (disconnect u s).cs = s.cs := rfl
@[simp] theorem disconnect_com (u : CompareUnit) (s : State) : (disconnect u s).com = s.com.set u Config.comDisconnected := rfl
@[simp] theorem disconnect_ocie (u : CompareUnit) (s : State) : (disconnect u s).ocie = s.ocie.set u false := rfl
@[simp] theorem disconnect_ocf (u : CompareUnit) (s : State) : (disconnect u s).ocf = s.ocf := rfl
@[simp] theorem disconnect_ocr (u : CompareUnit) (s : State) : (disconnect u s).ocr = s.ocr := rfl
@[simp] theorem disconnect_ocrAct (u : CompareUnit) (s : State) : (disconnect u s).ocrAct = s.ocrAct := rfl
@[simp] theorem disconnect_iflag (u : CompareUnit) (s : State) : (disconnect u s).iflag = s.iflag := rfl
@[simp] theorem disconnect_hostStatus (u : CompareUnit) (s : State) : (disconnect u s).hostStatus = s.hostStatus := rfl
@[simp] theorem disconnect_dir (u : CompareUnit) (s : State) : (disconnect u s).dir = s.dir := rfl
@[simp] theorem disconnect_level (u : CompareUnit) (s : State) : (disconnect u s).level = s.level := rfl
@[simp] theorem disconnect_inflight (u : CompareUnit) (s : State) : (disconnect u s).inflight = s.inflight := rfl
@[simp] theorem disconnect_cfg (u : CompareUnit) (s : State) : (disconnect u s).cfg = s.cfg := rfl
@[simp] theorem disconnect_result (u : CompareUnit) (s : State) : (disconnect u s).result = s.result := rfl
@[simp] theorem disconnect_commands (u : CompareUnit) (s : State) : (disconnect u s).commands = s.commands := rfl
@[simp] theorem disconnect_turns (u : CompareUnit) (s : State) : (disconnect u s).turns = s.turns := rfl
@[simp] theorem disconnect_levelOpen (u : CompareUnit) (s : State) : (disconnect u s).levelOpen = s.levelOpen := rfl
@[simp] theorem disconnect_freeIndex (u : CompareUnit) (s : State) : (disconnect u s).freeIndex = s.freeIndex := rfl

/-! ### Configuration (rule R100) -/

@[simp] theorem configureTimer_slot (s : State) : (configureTimer s).slot = s.slot := rfl
@[simp] theorem configureTimer_cnt (s : State) : (configureTimer s).cnt = s.cnt := rfl
@[simp] theorem configureTimer_top (s : State) : (configureTimer s).top = Config.topValue := rfl
@[simp] theorem configureTimer_wgm (s : State) : (configureTimer s).wgm = Config.wgmFastPwm := rfl
@[simp] theorem configureTimer_cs (s : State) : (configureTimer s).cs = Config.csDivideBy8 := rfl
@[simp] theorem configureTimer_com (s : State) : (configureTimer s).com = s.com := rfl
@[simp] theorem configureTimer_ocie (s : State) : (configureTimer s).ocie = s.ocie := rfl
@[simp] theorem configureTimer_ocf (s : State) : (configureTimer s).ocf = s.ocf := rfl
@[simp] theorem configureTimer_ocr (s : State) : (configureTimer s).ocr = s.ocr := rfl
@[simp] theorem configureTimer_ocrAct (s : State) : (configureTimer s).ocrAct = s.ocrAct := rfl
@[simp] theorem configureTimer_iflag (s : State) : (configureTimer s).iflag = true := rfl
@[simp] theorem configureTimer_hostStatus (s : State) : (configureTimer s).hostStatus = s.hostStatus := rfl
@[simp] theorem configureTimer_dir (s : State) : (configureTimer s).dir = s.dir := rfl
@[simp] theorem configureTimer_level (s : State) : (configureTimer s).level = s.level := rfl
@[simp] theorem configureTimer_inflight (s : State) : (configureTimer s).inflight = s.inflight := rfl
@[simp] theorem configureTimer_cfg (s : State) : (configureTimer s).cfg = s.cfg := rfl
@[simp] theorem configureTimer_result (s : State) : (configureTimer s).result = s.result := rfl
@[simp] theorem configureTimer_commands (s : State) : (configureTimer s).commands = s.commands := rfl
@[simp] theorem configureTimer_turns (s : State) : (configureTimer s).turns = s.turns := rfl
@[simp] theorem configureTimer_levelOpen (s : State) : (configureTimer s).levelOpen = s.levelOpen := rfl
@[simp] theorem configureTimer_freeIndex (s : State) : (configureTimer s).freeIndex = s.freeIndex := rfl

/-! ### The two halves of WRITE_ANGLE (rule R110): what they never touch -/

@[simp] theorem beginWrite_cnt (u : CompareUnit) (width : Half) (s : State) : (beginWrite u width s).cnt = s.cnt := by
  unfold beginWrite
  cases h : connected u (enterCritical s) <;> cases k : s.cfg.writeResetsWindow <;> simp [*]
@[simp] theorem beginWrite_top (u : CompareUnit) (width : Half) (s : State) : (beginWrite u width s).top = s.top := by
  unfold beginWrite
  cases h : connected u (enterCritical s) <;> cases k : s.cfg.writeResetsWindow <;> simp [*]
@[simp] theorem beginWrite_wgm (u : CompareUnit) (width : Half) (s : State) : (beginWrite u width s).wgm = s.wgm := by
  unfold beginWrite
  cases h : connected u (enterCritical s) <;> cases k : s.cfg.writeResetsWindow <;> simp [*]
@[simp] theorem beginWrite_cs (u : CompareUnit) (width : Half) (s : State) : (beginWrite u width s).cs = s.cs := by
  unfold beginWrite
  cases h : connected u (enterCritical s) <;> cases k : s.cfg.writeResetsWindow <;> simp [*]
@[simp] theorem beginWrite_ocr (u : CompareUnit) (width : Half) (s : State) : (beginWrite u width s).ocr = s.ocr := by
  unfold beginWrite
  cases h : connected u (enterCritical s) <;> cases k : s.cfg.writeResetsWindow <;> simp [*]
@[simp] theorem beginWrite_ocrAct (u : CompareUnit) (width : Half) (s : State) : (beginWrite u width s).ocrAct = s.ocrAct := by
  unfold beginWrite
  cases h : connected u (enterCritical s) <;> cases k : s.cfg.writeResetsWindow <;> simp [*]
@[simp] theorem beginWrite_iflag (u : CompareUnit) (width : Half) (s : State) : (beginWrite u width s).iflag = false := by
  unfold beginWrite
  cases h : connected u (enterCritical s) <;> cases k : s.cfg.writeResetsWindow <;> simp [*]
@[simp] theorem beginWrite_hostStatus (u : CompareUnit) (width : Half) (s : State) : (beginWrite u width s).hostStatus = s.hostStatus := by
  unfold beginWrite
  cases h : connected u (enterCritical s) <;> cases k : s.cfg.writeResetsWindow <;> simp [*]
@[simp] theorem beginWrite_dir (u : CompareUnit) (width : Half) (s : State) : (beginWrite u width s).dir = s.dir := by
  unfold beginWrite
  cases h : connected u (enterCritical s) <;> cases k : s.cfg.writeResetsWindow <;> simp [*]
@[simp] theorem beginWrite_level (u : CompareUnit) (width : Half) (s : State) : (beginWrite u width s).level = s.level := by
  unfold beginWrite
  cases h : connected u (enterCritical s) <;> cases k : s.cfg.writeResetsWindow <;> simp [*]
@[simp] theorem beginWrite_inflight (u : CompareUnit) (width : Half) (s : State) : (beginWrite u width s).inflight = some ⟨u, width⟩ := by
  unfold beginWrite
  cases h : connected u (enterCritical s) <;> cases k : s.cfg.writeResetsWindow <;> simp [*]
@[simp] theorem beginWrite_cfg (u : CompareUnit) (width : Half) (s : State) : (beginWrite u width s).cfg = s.cfg := by
  unfold beginWrite
  cases h : connected u (enterCritical s) <;> cases k : s.cfg.writeResetsWindow <;> simp [*]
@[simp] theorem beginWrite_result (u : CompareUnit) (width : Half) (s : State) : (beginWrite u width s).result = none := by
  unfold beginWrite
  cases h : connected u (enterCritical s) <;> cases k : s.cfg.writeResetsWindow <;> simp [*]
@[simp] theorem beginWrite_commands (u : CompareUnit) (width : Half) (s : State) : (beginWrite u width s).commands = s.commands := by
  unfold beginWrite
  cases h : connected u (enterCritical s) <;> cases k : s.cfg.writeResetsWindow <;> simp [*]
@[simp] theorem beginWrite_turns (u : CompareUnit) (width : Half) (s : State) : (beginWrite u width s).turns = s.turns := by
  unfold beginWrite
  cases h : connected u (enterCritical s) <;> cases k : s.cfg.writeResetsWindow <;> simp [*]
@[simp] theorem beginWrite_freeIndex (u : CompareUnit) (width : Half) (s : State) : (beginWrite u width s).freeIndex = s.freeIndex := by
  unfold beginWrite
  cases h : connected u (enterCritical s) <;> cases k : s.cfg.writeResetsWindow <;> simp [*]

@[simp] theorem finishWrite_slot (f : Inflight) (s : State) : (finishWrite f s).slot = s.slot := rfl
@[simp] theorem finishWrite_cnt (f : Inflight) (s : State) : (finishWrite f s).cnt = s.cnt := rfl
@[simp] theorem finishWrite_top (f : Inflight) (s : State) : (finishWrite f s).top = s.top := rfl
@[simp] theorem finishWrite_wgm (f : Inflight) (s : State) : (finishWrite f s).wgm = s.wgm := rfl
@[simp] theorem finishWrite_cs (f : Inflight) (s : State) : (finishWrite f s).cs = s.cs := rfl
@[simp] theorem finishWrite_com (f : Inflight) (s : State) : (finishWrite f s).com = s.com := rfl
@[simp] theorem finishWrite_ocie (f : Inflight) (s : State) : (finishWrite f s).ocie = s.ocie := rfl
@[simp] theorem finishWrite_ocf (f : Inflight) (s : State) : (finishWrite f s).ocf = s.ocf := rfl
@[simp] theorem finishWrite_ocr (f : Inflight) (s : State) : (finishWrite f s).ocr = s.ocr.set f.unit f.width := rfl
@[simp] theorem finishWrite_ocrAct (f : Inflight) (s : State) : (finishWrite f s).ocrAct = bif s.cfg.ocrUpdate == .immediate then s.ocrAct.set f.unit f.width else s.ocrAct := rfl
@[simp] theorem finishWrite_iflag (f : Inflight) (s : State) : (finishWrite f s).iflag = true := rfl
@[simp] theorem finishWrite_hostStatus (f : Inflight) (s : State) : (finishWrite f s).hostStatus = s.hostStatus := rfl
@[simp] theorem finishWrite_dir (f : Inflight) (s : State) : (finishWrite f s).dir = s.dir := rfl
@[simp] theorem finishWrite_level (f : Inflight) (s : State) : (finishWrite f s).level = s.level := rfl
@[simp] theorem finishWrite_inflight (f : Inflight) (s : State) : (finishWrite f s).inflight = none := rfl
@[simp] theorem finishWrite_cfg (f : Inflight) (s : State) : (finishWrite f s).cfg = s.cfg := rfl
@[simp] theorem finishWrite_result (f : Inflight) (s : State) : (finishWrite f s).result = some .ok := rfl
@[simp] theorem finishWrite_commands (f : Inflight) (s : State) : (finishWrite f s).commands = s.commands := rfl
@[simp] theorem finishWrite_turns (f : Inflight) (s : State) : (finishWrite f s).turns = s.turns := rfl
@[simp] theorem finishWrite_levelOpen (f : Inflight) (s : State) : (finishWrite f s).levelOpen = s.levelOpen := rfl
@[simp] theorem finishWrite_freeIndex (f : Inflight) (s : State) : (finishWrite f s).freeIndex = s.freeIndex := rfl

/-! ### The handler (rule R132): what it never touches -/

@[simp] theorem handle_cnt (u : CompareUnit) (c : Channel) (s : State) : (handle u c s).cnt = s.cnt := by
  unfold handle
  cases c.pulseCount.toNat + 1 == Config.pulseRate <;> simp
@[simp] theorem handle_top (u : CompareUnit) (c : Channel) (s : State) : (handle u c s).top = s.top := by
  unfold handle
  cases c.pulseCount.toNat + 1 == Config.pulseRate <;> simp
@[simp] theorem handle_wgm (u : CompareUnit) (c : Channel) (s : State) : (handle u c s).wgm = s.wgm := by
  unfold handle
  cases c.pulseCount.toNat + 1 == Config.pulseRate <;> simp
@[simp] theorem handle_cs (u : CompareUnit) (c : Channel) (s : State) : (handle u c s).cs = s.cs := by
  unfold handle
  cases c.pulseCount.toNat + 1 == Config.pulseRate <;> simp
@[simp] theorem handle_ocf (u : CompareUnit) (c : Channel) (s : State) : (handle u c s).ocf = s.ocf := by
  unfold handle
  cases c.pulseCount.toNat + 1 == Config.pulseRate <;> simp
@[simp] theorem handle_ocr (u : CompareUnit) (c : Channel) (s : State) : (handle u c s).ocr = s.ocr := by
  unfold handle
  cases c.pulseCount.toNat + 1 == Config.pulseRate <;> simp
@[simp] theorem handle_ocrAct (u : CompareUnit) (c : Channel) (s : State) : (handle u c s).ocrAct = s.ocrAct := by
  unfold handle
  cases c.pulseCount.toNat + 1 == Config.pulseRate <;> simp
@[simp] theorem handle_iflag (u : CompareUnit) (c : Channel) (s : State) : (handle u c s).iflag = s.iflag := by
  unfold handle
  cases c.pulseCount.toNat + 1 == Config.pulseRate <;> simp
@[simp] theorem handle_hostStatus (u : CompareUnit) (c : Channel) (s : State) : (handle u c s).hostStatus = s.hostStatus := by
  unfold handle
  cases c.pulseCount.toNat + 1 == Config.pulseRate <;> simp
@[simp] theorem handle_dir (u : CompareUnit) (c : Channel) (s : State) : (handle u c s).dir = s.dir := by
  unfold handle
  cases c.pulseCount.toNat + 1 == Config.pulseRate <;> simp
@[simp] theorem handle_level (u : CompareUnit) (c : Channel) (s : State) : (handle u c s).level = s.level := by
  unfold handle
  cases c.pulseCount.toNat + 1 == Config.pulseRate <;> simp
@[simp] theorem handle_inflight (u : CompareUnit) (c : Channel) (s : State) : (handle u c s).inflight = s.inflight := by
  unfold handle
  cases c.pulseCount.toNat + 1 == Config.pulseRate <;> simp
@[simp] theorem handle_cfg (u : CompareUnit) (c : Channel) (s : State) : (handle u c s).cfg = s.cfg := by
  unfold handle
  cases c.pulseCount.toNat + 1 == Config.pulseRate <;> simp
@[simp] theorem handle_result (u : CompareUnit) (c : Channel) (s : State) : (handle u c s).result = s.result := by
  unfold handle
  cases c.pulseCount.toNat + 1 == Config.pulseRate <;> simp
@[simp] theorem handle_commands (u : CompareUnit) (c : Channel) (s : State) : (handle u c s).commands = s.commands := by
  unfold handle
  cases c.pulseCount.toNat + 1 == Config.pulseRate <;> simp
@[simp] theorem handle_turns (u : CompareUnit) (c : Channel) (s : State) : (handle u c s).turns = s.turns := by
  unfold handle
  cases c.pulseCount.toNat + 1 == Config.pulseRate <;> simp
@[simp] theorem handle_levelOpen (u : CompareUnit) (c : Channel) (s : State) : (handle u c s).levelOpen = s.levelOpen := by
  unfold handle
  cases c.pulseCount.toNat + 1 == Config.pulseRate <;> simp
@[simp] theorem handle_freeIndex (u : CompareUnit) (c : Channel) (s : State) : (handle u c s).freeIndex = s.freeIndex := by
  unfold handle
  cases c.pulseCount.toNat + 1 == Config.pulseRate <;> simp

/-! ### The timer (rule R150): one unit's part of a tick -/

@[simp] theorem startUnit_slot (u : CompareUnit) (s : State) : (startUnit u s).slot = s.slot := by
  unfold startUnit
  cases h : s.cfg.ocrUpdate == .atBottom <;> cases k : s.com.get u == Config.comConnected <;> simp [*]
@[simp] theorem startUnit_cnt (u : CompareUnit) (s : State) : (startUnit u s).cnt = s.cnt := by
  unfold startUnit
  cases h : s.cfg.ocrUpdate == .atBottom <;> cases k : s.com.get u == Config.comConnected <;> simp [*]
@[simp] theorem startUnit_top (u : CompareUnit) (s : State) : (startUnit u s).top = s.top := by
  unfold startUnit
  cases h : s.cfg.ocrUpdate == .atBottom <;> cases k : s.com.get u == Config.comConnected <;> simp [*]
@[simp] theorem startUnit_wgm (u : CompareUnit) (s : State) : (startUnit u s).wgm = s.wgm := by
  unfold startUnit
  cases h : s.cfg.ocrUpdate == .atBottom <;> cases k : s.com.get u == Config.comConnected <;> simp [*]
@[simp] theorem startUnit_cs (u : CompareUnit) (s : State) : (startUnit u s).cs = s.cs := by
  unfold startUnit
  cases h : s.cfg.ocrUpdate == .atBottom <;> cases k : s.com.get u == Config.comConnected <;> simp [*]
@[simp] theorem startUnit_com (u : CompareUnit) (s : State) : (startUnit u s).com = s.com := by
  unfold startUnit
  cases h : s.cfg.ocrUpdate == .atBottom <;> cases k : s.com.get u == Config.comConnected <;> simp [*]
@[simp] theorem startUnit_ocie (u : CompareUnit) (s : State) : (startUnit u s).ocie = s.ocie := by
  unfold startUnit
  cases h : s.cfg.ocrUpdate == .atBottom <;> cases k : s.com.get u == Config.comConnected <;> simp [*]
@[simp] theorem startUnit_ocf (u : CompareUnit) (s : State) : (startUnit u s).ocf = s.ocf := by
  unfold startUnit
  cases h : s.cfg.ocrUpdate == .atBottom <;> cases k : s.com.get u == Config.comConnected <;> simp [*]
@[simp] theorem startUnit_ocr (u : CompareUnit) (s : State) : (startUnit u s).ocr = s.ocr := by
  unfold startUnit
  cases h : s.cfg.ocrUpdate == .atBottom <;> cases k : s.com.get u == Config.comConnected <;> simp [*]
@[simp] theorem startUnit_ocrAct (u : CompareUnit) (s : State) : (startUnit u s).ocrAct = bif s.cfg.ocrUpdate == .atBottom then s.ocrAct.set u (s.ocr.get u) else s.ocrAct := by
  unfold startUnit
  cases h : s.cfg.ocrUpdate == .atBottom <;> cases k : s.com.get u == Config.comConnected <;> simp [*]
@[simp] theorem startUnit_iflag (u : CompareUnit) (s : State) : (startUnit u s).iflag = s.iflag := by
  unfold startUnit
  cases h : s.cfg.ocrUpdate == .atBottom <;> cases k : s.com.get u == Config.comConnected <;> simp [*]
@[simp] theorem startUnit_hostStatus (u : CompareUnit) (s : State) : (startUnit u s).hostStatus = s.hostStatus := by
  unfold startUnit
  cases h : s.cfg.ocrUpdate == .atBottom <;> cases k : s.com.get u == Config.comConnected <;> simp [*]
@[simp] theorem startUnit_dir (u : CompareUnit) (s : State) : (startUnit u s).dir = s.dir := by
  unfold startUnit
  cases h : s.cfg.ocrUpdate == .atBottom <;> cases k : s.com.get u == Config.comConnected <;> simp [*]
@[simp] theorem startUnit_level (u : CompareUnit) (s : State) : (startUnit u s).level = bif s.com.get u == Config.comConnected then s.level.set u true else s.level := by
  unfold startUnit
  cases h : s.cfg.ocrUpdate == .atBottom <;> cases k : s.com.get u == Config.comConnected <;> simp [*]
@[simp] theorem startUnit_inflight (u : CompareUnit) (s : State) : (startUnit u s).inflight = s.inflight := by
  unfold startUnit
  cases h : s.cfg.ocrUpdate == .atBottom <;> cases k : s.com.get u == Config.comConnected <;> simp [*]
@[simp] theorem startUnit_cfg (u : CompareUnit) (s : State) : (startUnit u s).cfg = s.cfg := by
  unfold startUnit
  cases h : s.cfg.ocrUpdate == .atBottom <;> cases k : s.com.get u == Config.comConnected <;> simp [*]
@[simp] theorem startUnit_result (u : CompareUnit) (s : State) : (startUnit u s).result = s.result := by
  unfold startUnit
  cases h : s.cfg.ocrUpdate == .atBottom <;> cases k : s.com.get u == Config.comConnected <;> simp [*]
@[simp] theorem startUnit_commands (u : CompareUnit) (s : State) : (startUnit u s).commands = s.commands := by
  unfold startUnit
  cases h : s.cfg.ocrUpdate == .atBottom <;> cases k : s.com.get u == Config.comConnected <;> simp [*]
@[simp] theorem startUnit_turns (u : CompareUnit) (s : State) : (startUnit u s).turns = s.turns := by
  unfold startUnit
  cases h : s.cfg.ocrUpdate == .atBottom <;> cases k : s.com.get u == Config.comConnected <;> simp [*]
@[simp] theorem startUnit_levelOpen (u : CompareUnit) (s : State) : (startUnit u s).levelOpen = s.levelOpen.set u false := by
  unfold startUnit
  cases h : s.cfg.ocrUpdate == .atBottom <;> cases k : s.com.get u == Config.comConnected <;> simp [*]
@[simp] theorem startUnit_freeIndex (u : CompareUnit) (s : State) : (startUnit u s).freeIndex = s.freeIndex := by
  unfold startUnit
  cases h : s.cfg.ocrUpdate == .atBottom <;> cases k : s.com.get u == Config.comConnected <;> simp [*]

@[simp] theorem matchUnit_slot (u : CompareUnit) (s : State) : (matchUnit u s).slot = s.slot := by
  unfold matchUnit
  cases h : s.cnt == s.ocrAct.get u <;> cases k : s.com.get u == Config.comConnected <;> simp [*]
@[simp] theorem matchUnit_cnt (u : CompareUnit) (s : State) : (matchUnit u s).cnt = s.cnt := by
  unfold matchUnit
  cases h : s.cnt == s.ocrAct.get u <;> cases k : s.com.get u == Config.comConnected <;> simp [*]
@[simp] theorem matchUnit_top (u : CompareUnit) (s : State) : (matchUnit u s).top = s.top := by
  unfold matchUnit
  cases h : s.cnt == s.ocrAct.get u <;> cases k : s.com.get u == Config.comConnected <;> simp [*]
@[simp] theorem matchUnit_wgm (u : CompareUnit) (s : State) : (matchUnit u s).wgm = s.wgm := by
  unfold matchUnit
  cases h : s.cnt == s.ocrAct.get u <;> cases k : s.com.get u == Config.comConnected <;> simp [*]
@[simp] theorem matchUnit_cs (u : CompareUnit) (s : State) : (matchUnit u s).cs = s.cs := by
  unfold matchUnit
  cases h : s.cnt == s.ocrAct.get u <;> cases k : s.com.get u == Config.comConnected <;> simp [*]
@[simp] theorem matchUnit_com (u : CompareUnit) (s : State) : (matchUnit u s).com = s.com := by
  unfold matchUnit
  cases h : s.cnt == s.ocrAct.get u <;> cases k : s.com.get u == Config.comConnected <;> simp [*]
@[simp] theorem matchUnit_ocie (u : CompareUnit) (s : State) : (matchUnit u s).ocie = s.ocie := by
  unfold matchUnit
  cases h : s.cnt == s.ocrAct.get u <;> cases k : s.com.get u == Config.comConnected <;> simp [*]
@[simp] theorem matchUnit_ocf (u : CompareUnit) (s : State) : (matchUnit u s).ocf = bif s.cnt == s.ocrAct.get u then s.ocf.set u true else s.ocf := by
  unfold matchUnit
  cases h : s.cnt == s.ocrAct.get u <;> cases k : s.com.get u == Config.comConnected <;> simp [*]
@[simp] theorem matchUnit_ocr (u : CompareUnit) (s : State) : (matchUnit u s).ocr = s.ocr := by
  unfold matchUnit
  cases h : s.cnt == s.ocrAct.get u <;> cases k : s.com.get u == Config.comConnected <;> simp [*]
@[simp] theorem matchUnit_ocrAct (u : CompareUnit) (s : State) : (matchUnit u s).ocrAct = s.ocrAct := by
  unfold matchUnit
  cases h : s.cnt == s.ocrAct.get u <;> cases k : s.com.get u == Config.comConnected <;> simp [*]
@[simp] theorem matchUnit_iflag (u : CompareUnit) (s : State) : (matchUnit u s).iflag = s.iflag := by
  unfold matchUnit
  cases h : s.cnt == s.ocrAct.get u <;> cases k : s.com.get u == Config.comConnected <;> simp [*]
@[simp] theorem matchUnit_hostStatus (u : CompareUnit) (s : State) : (matchUnit u s).hostStatus = s.hostStatus := by
  unfold matchUnit
  cases h : s.cnt == s.ocrAct.get u <;> cases k : s.com.get u == Config.comConnected <;> simp [*]
@[simp] theorem matchUnit_dir (u : CompareUnit) (s : State) : (matchUnit u s).dir = s.dir := by
  unfold matchUnit
  cases h : s.cnt == s.ocrAct.get u <;> cases k : s.com.get u == Config.comConnected <;> simp [*]
@[simp] theorem matchUnit_level (u : CompareUnit) (s : State) : (matchUnit u s).level = bif s.cnt == s.ocrAct.get u && s.com.get u == Config.comConnected then s.level.set u false else s.level := by
  unfold matchUnit
  cases h : s.cnt == s.ocrAct.get u <;> cases k : s.com.get u == Config.comConnected <;> simp [*]
@[simp] theorem matchUnit_inflight (u : CompareUnit) (s : State) : (matchUnit u s).inflight = s.inflight := by
  unfold matchUnit
  cases h : s.cnt == s.ocrAct.get u <;> cases k : s.com.get u == Config.comConnected <;> simp [*]
@[simp] theorem matchUnit_cfg (u : CompareUnit) (s : State) : (matchUnit u s).cfg = s.cfg := by
  unfold matchUnit
  cases h : s.cnt == s.ocrAct.get u <;> cases k : s.com.get u == Config.comConnected <;> simp [*]
@[simp] theorem matchUnit_result (u : CompareUnit) (s : State) : (matchUnit u s).result = s.result := by
  unfold matchUnit
  cases h : s.cnt == s.ocrAct.get u <;> cases k : s.com.get u == Config.comConnected <;> simp [*]
@[simp] theorem matchUnit_commands (u : CompareUnit) (s : State) : (matchUnit u s).commands = s.commands := by
  unfold matchUnit
  cases h : s.cnt == s.ocrAct.get u <;> cases k : s.com.get u == Config.comConnected <;> simp [*]
@[simp] theorem matchUnit_turns (u : CompareUnit) (s : State) : (matchUnit u s).turns = s.turns := by
  unfold matchUnit
  cases h : s.cnt == s.ocrAct.get u <;> cases k : s.com.get u == Config.comConnected <;> simp [*]
@[simp] theorem matchUnit_levelOpen (u : CompareUnit) (s : State) : (matchUnit u s).levelOpen = s.levelOpen := by
  unfold matchUnit
  cases h : s.cnt == s.ocrAct.get u <;> cases k : s.com.get u == Config.comConnected <;> simp [*]
@[simp] theorem matchUnit_freeIndex (u : CompareUnit) (s : State) : (matchUnit u s).freeIndex = s.freeIndex := by
  unfold matchUnit
  cases h : s.cnt == s.ocrAct.get u <;> cases k : s.com.get u == Config.comConnected <;> simp [*]

/-! A tick's count, and what it never touches. -/

@[simp] theorem tick_slot (s : State) : (tick s).slot = s.slot := by
  unfold tick
  dsimp only
  cases (setCnt (nextCount s) s).cnt == 0 <;> simp
@[simp] theorem tick_cnt (s : State) : (tick s).cnt = nextCount s := by
  unfold tick
  dsimp only
  cases (setCnt (nextCount s) s).cnt == 0 <;> simp
@[simp] theorem tick_top (s : State) : (tick s).top = s.top := by
  unfold tick
  dsimp only
  cases (setCnt (nextCount s) s).cnt == 0 <;> simp
@[simp] theorem tick_wgm (s : State) : (tick s).wgm = s.wgm := by
  unfold tick
  dsimp only
  cases (setCnt (nextCount s) s).cnt == 0 <;> simp
@[simp] theorem tick_cs (s : State) : (tick s).cs = s.cs := by
  unfold tick
  dsimp only
  cases (setCnt (nextCount s) s).cnt == 0 <;> simp
@[simp] theorem tick_com (s : State) : (tick s).com = s.com := by
  unfold tick
  dsimp only
  cases (setCnt (nextCount s) s).cnt == 0 <;> simp
@[simp] theorem tick_ocie (s : State) : (tick s).ocie = s.ocie := by
  unfold tick
  dsimp only
  cases (setCnt (nextCount s) s).cnt == 0 <;> simp
@[simp] theorem tick_ocr (s : State) : (tick s).ocr = s.ocr := by
  unfold tick
  dsimp only
  cases (setCnt (nextCount s) s).cnt == 0 <;> simp
@[simp] theorem tick_iflag (s : State) : (tick s).iflag = s.iflag := by
  unfold tick
  dsimp only
  cases (setCnt (nextCount s) s).cnt == 0 <;> simp
@[simp] theorem tick_hostStatus (s : State) : (tick s).hostStatus = s.hostStatus := by
  unfold tick
  dsimp only
  cases (setCnt (nextCount s) s).cnt == 0 <;> simp
@[simp] theorem tick_dir (s : State) : (tick s).dir = s.dir := by
  unfold tick
  dsimp only
  cases (setCnt (nextCount s) s).cnt == 0 <;> simp
@[simp] theorem tick_inflight (s : State) : (tick s).inflight = s.inflight := by
  unfold tick
  dsimp only
  cases (setCnt (nextCount s) s).cnt == 0 <;> simp
@[simp] theorem tick_cfg (s : State) : (tick s).cfg = s.cfg := by
  unfold tick
  dsimp only
  cases (setCnt (nextCount s) s).cnt == 0 <;> simp
@[simp] theorem tick_result (s : State) : (tick s).result = s.result := by
  unfold tick
  dsimp only
  cases (setCnt (nextCount s) s).cnt == 0 <;> simp
@[simp] theorem tick_commands (s : State) : (tick s).commands = s.commands := by
  unfold tick
  dsimp only
  cases (setCnt (nextCount s) s).cnt == 0 <;> simp
@[simp] theorem tick_turns (s : State) : (tick s).turns = s.turns := by
  unfold tick
  dsimp only
  cases (setCnt (nextCount s) s).cnt == 0 <;> simp
@[simp] theorem tick_freeIndex (s : State) : (tick s).freeIndex = s.freeIndex := by
  unfold tick
  dsimp only
  cases (setCnt (nextCount s) s).cnt == 0 <;> simp

/-! ### Reset and turns -/

@[simp] theorem externalReset_slot (s : State) : (externalReset s).slot = .both none := rfl
@[simp] theorem externalReset_cnt (s : State) : (externalReset s).cnt = 0 := rfl
@[simp] theorem externalReset_top (s : State) : (externalReset s).top = 0 := rfl
@[simp] theorem externalReset_wgm (s : State) : (externalReset s).wgm = 0b0000#4 := rfl
@[simp] theorem externalReset_cs (s : State) : (externalReset s).cs = 0b000#3 := rfl
@[simp] theorem externalReset_com (s : State) : (externalReset s).com = .both 0b00#2 := rfl
@[simp] theorem externalReset_ocie (s : State) : (externalReset s).ocie = .both false := rfl
@[simp] theorem externalReset_ocf (s : State) : (externalReset s).ocf = .both false := rfl
@[simp] theorem externalReset_ocr (s : State) : (externalReset s).ocr = .both 0 := rfl
@[simp] theorem externalReset_ocrAct (s : State) : (externalReset s).ocrAct = .both 0 := rfl
@[simp] theorem externalReset_iflag (s : State) : (externalReset s).iflag = false := rfl
@[simp] theorem externalReset_hostStatus (s : State) : (externalReset s).hostStatus = 0 := rfl
@[simp] theorem externalReset_dir (s : State) : (externalReset s).dir = .both .input := rfl
@[simp] theorem externalReset_level (s : State) : (externalReset s).level = .both false := rfl
@[simp] theorem externalReset_inflight (s : State) : (externalReset s).inflight = none := rfl
@[simp] theorem externalReset_cfg (s : State) : (externalReset s).cfg = s.cfg := rfl
@[simp] theorem externalReset_result (s : State) : (externalReset s).result = none := rfl
@[simp] theorem externalReset_commands (s : State) : (externalReset s).commands = s.commands := rfl
@[simp] theorem externalReset_turns (s : State) : (externalReset s).turns = s.turns := rfl
@[simp] theorem externalReset_levelOpen (s : State) : (externalReset s).levelOpen = .both false := rfl
@[simp] theorem externalReset_freeIndex (s : State) : (externalReset s).freeIndex = s.freeIndex := rfl

@[simp] theorem takeTurn_slot (s : State) : (takeTurn s).slot = s.slot := rfl
@[simp] theorem takeTurn_cnt (s : State) : (takeTurn s).cnt = s.cnt := rfl
@[simp] theorem takeTurn_top (s : State) : (takeTurn s).top = s.top := rfl
@[simp] theorem takeTurn_wgm (s : State) : (takeTurn s).wgm = s.wgm := rfl
@[simp] theorem takeTurn_cs (s : State) : (takeTurn s).cs = s.cs := rfl
@[simp] theorem takeTurn_com (s : State) : (takeTurn s).com = s.com := rfl
@[simp] theorem takeTurn_ocie (s : State) : (takeTurn s).ocie = s.ocie := rfl
@[simp] theorem takeTurn_ocf (s : State) : (takeTurn s).ocf = s.ocf := rfl
@[simp] theorem takeTurn_ocr (s : State) : (takeTurn s).ocr = s.ocr := rfl
@[simp] theorem takeTurn_ocrAct (s : State) : (takeTurn s).ocrAct = s.ocrAct := rfl
@[simp] theorem takeTurn_iflag (s : State) : (takeTurn s).iflag = s.iflag := rfl
@[simp] theorem takeTurn_hostStatus (s : State) : (takeTurn s).hostStatus = s.hostStatus := rfl
@[simp] theorem takeTurn_dir (s : State) : (takeTurn s).dir = s.dir := rfl
@[simp] theorem takeTurn_level (s : State) : (takeTurn s).level = s.level := rfl
@[simp] theorem takeTurn_inflight (s : State) : (takeTurn s).inflight = s.inflight := rfl
@[simp] theorem takeTurn_cfg (s : State) : (takeTurn s).cfg = s.cfg := rfl
@[simp] theorem takeTurn_result (s : State) : (takeTurn s).result = s.result := rfl
@[simp] theorem takeTurn_commands (s : State) : (takeTurn s).commands = s.commands := rfl
@[simp] theorem takeTurn_turns (s : State) : (takeTurn s).turns = s.turns.tail := rfl
@[simp] theorem takeTurn_levelOpen (s : State) : (takeTurn s).levelOpen = s.levelOpen := rfl
@[simp] theorem takeTurn_freeIndex (s : State) : (takeTurn s).freeIndex = s.freeIndex + 1 := rfl

end Sys2Proof.Machine
end

