-- ==== Sys2Proof/Laws/Cases.lean ====
section
/-! SUPPORT. What each command, each agent and the step can do, said once: the provers split on these and unfold neither
`exec` nor `step`. -/

namespace Sys2Proof.Machine

/-- Every arm of `exec` answers a next state. -/
theorem exec_next (i : Instr) (s : State) : ∃ t, exec i s = .next t := by
  cases i with
  | attach pin => exact ⟨_, rfl⟩
  | attachMinmax pin minPW maxPW => exact ⟨_, rfl⟩
  | writeAngle pin angle =>
    simp only [exec, execWriteAngle]
    split
    · exact ⟨_, rfl⟩
    · split <;> exact ⟨_, rfl⟩
  | dispatch u =>
    simp only [exec, execDispatch]
    split <;> exact ⟨_, rfl⟩

/-- The outcomes of an attach (rule R102): a bad pin, an occupied slot, the first claim since reset, a later claim. -/
theorem attachChannel_cases (pin : Byte) (minPW maxPW : Half) (s : State) :
    (unitOf s.cfg pin = none ∧ attachChannel pin minPW maxPW s = reply .ignoredBadPin s) ∨
    (∃ u c, unitOf s.cfg pin = some u ∧ s.slot.get u = some c ∧
      attachChannel pin minPW maxPW s = reply .ignoredOccupied s) ∨
    (∃ u, unitOf s.cfg pin = some u ∧ s.slot.get u = none ∧ bothEmpty s = true ∧
      attachChannel pin minPW maxPW s =
        reply .ok (setDir u .output (setSlot u (newChannel pin minPW maxPW) (configureTimer s)))) ∨
    (∃ u, unitOf s.cfg pin = some u ∧ s.slot.get u = none ∧ bothEmpty s = false ∧
      attachChannel pin minPW maxPW s =
        reply .ok (setDir u .output (setSlot u (newChannel pin minPW maxPW) s))) := by
  unfold attachChannel
  cases hu : unitOf s.cfg pin with
  | none => exact .inl ⟨rfl, rfl⟩
  | some u =>
    refine .inr ?_
    dsimp only
    cases hs : s.slot.get u with
    | some c => exact .inl ⟨u, c, rfl, hs, rfl⟩
    | none =>
      refine .inr ?_
      cases hb : bothEmpty s with
      | true => exact .inl ⟨u, rfl, hs, rfl, by simp⟩
      | false => exact .inr ⟨u, rfl, hs, rfl, by simp⟩

/-- The outcomes of WRITE_ANGLE's first half (rule R110). -/
theorem exec_writeAngle_cases (pin : Byte) (angle : Int) (s : State) :
    (unitOf s.cfg pin = none ∧ exec (.writeAngle pin angle) s = .next (reply .ignoredBadPin s)) ∨
    (∃ u, unitOf s.cfg pin = some u ∧ s.slot.get u = none ∧
      exec (.writeAngle pin angle) s = .next (reply .ignoredNotAttached s)) ∨
    (∃ u c, unitOf s.cfg pin = some u ∧ s.slot.get u = some c ∧
      exec (.writeAngle pin angle) s = .next (beginWrite u (widthOf c angle) s)) := by
  simp only [exec, execWriteAngle]
  cases hu : unitOf s.cfg pin with
  | none => exact .inl ⟨rfl, rfl⟩
  | some u =>
    refine .inr ?_
    dsimp only
    cases hs : s.slot.get u with
    | none => exact .inl ⟨u, rfl, hs, rfl⟩
    | some c => exact .inr ⟨u, c, rfl, hs, rfl⟩

/-- The outcomes of DISPATCH (rules R130, R132): no channel, a counted event, the event that disconnects. -/
theorem exec_dispatch_cases (u : CompareUnit) (s : State) :
    (s.slot.get u = none ∧ exec (.dispatch u) s = .next (reply .ignoredNoChannel s)) ∨
    (∃ c, s.slot.get u = some c ∧ c.pulseCount.toNat + 1 ≠ Config.pulseRate ∧
      exec (.dispatch u) s = .next (reply .ok (setPulseCount u (c.pulseCount + 1) s))) ∨
    (∃ c, s.slot.get u = some c ∧ c.pulseCount.toNat + 1 = Config.pulseRate ∧
      exec (.dispatch u) s =
        .next (reply .ok (setPulseCount u 0 (disconnect u (setPulseCount u (c.pulseCount + 1) s))))) := by
  simp only [exec, execDispatch]
  cases hs : s.slot.get u with
  | none => exact .inl ⟨rfl, rfl⟩
  | some c =>
    refine .inr ?_
    by_cases h : c.pulseCount.toNat + 1 = Config.pulseRate
    · exact .inr ⟨c, rfl, h, by simp [handle, h]⟩
    · exact .inl ⟨c, rfl, h, by simp [handle, beq_false_of_ne h]⟩

/-- A step is the step of whoever has the turn. -/
theorem step_of_turn {s : State} {t : Turn} (h : nextTurn s = t) : step s = turnStep t (takeTurn s) := by
  rw [step, h]

/-- A word placed whole is that word. -/
theorem withFetchWord_word (s : State) (w : CommandWord) : s.withFetchWord 64 w.toNat = loadCommand w s := by
  rw [State.withFetchWord, Nat.mod_eq_of_lt w.isLt, BitVec.ofNat_toNat, BitVec.setWidth_eq]

/-- What the HOST's step can do (rules R50 (c), R86, R87). -/
theorem hostStep_cases (s : State) :
    (∃ f, s.inflight = some f ∧ hostStep s = .next (finishWrite f s)) ∨
    (s.inflight = none ∧ s.commands = [] ∧ hostStep s = .next s) ∨
    (∃ w rest, s.inflight = none ∧ s.commands = w :: rest ∧
      hostStep s = .next (reply .illegal { s with commands := rest })) ∨
    (∃ w rest i, s.inflight = none ∧ s.commands = w :: rest ∧ decode w = .ok i ∧ hostMayIssue s.cfg i = true ∧
      hostStep s = exec i { s with commands := rest }) := by
  unfold hostStep
  cases hf : s.inflight with
  | some f => exact .inl ⟨f, rfl, rfl⟩
  | none =>
    refine .inr ?_
    dsimp only
    cases hc : s.commands with
    | nil => exact .inl ⟨rfl, rfl, rfl⟩
    | cons w rest =>
      refine .inr ?_
      dsimp only [issue]
      cases hd : decode w with
      | error e => exact .inl ⟨w, rest, rfl, rfl, rfl⟩
      | ok i =>
        cases hi : hostMayIssue s.cfg i with
        | false => exact .inl ⟨w, rest, rfl, rfl, by simp [hi]⟩
        | true => exact .inr ⟨w, rest, i, rfl, rfl, hd, hi, by simp [hi]⟩

/-- What the INTERRUPT UNIT's step can do (rules R153, R154). -/
theorem interruptStep_cases (s : State) :
    (deliverEnabled s = false ∧ interruptStep s = .next s) ∨
    (∃ t, deliverEnabled s = true ∧ exec (.dispatch (deliverUnit s)) (takeInterrupt (deliverUnit s) s) = .next t ∧
      interruptStep s = .next (returnFromInterrupt (setResult s.result t))) := by
  unfold interruptStep
  cases hd : deliverEnabled s with
  | false => exact .inl ⟨rfl, by simp⟩
  | true =>
    obtain ⟨t, ht⟩ := exec_next (.dispatch (deliverUnit s)) (takeInterrupt (deliverUnit s) s)
    exact .inr ⟨t, rfl, ht, by simp [deliver, ht]⟩

/-- What a DISPATCH can change: its unit's slot, mode and enable, and the result (rules R130, R132). -/
theorem exec_dispatch_frame {u : CompareUnit} {s t : State} (h : exec (.dispatch u) s = .next t) :
    t = { s with slot := t.slot, com := t.com, ocie := t.ocie, result := t.result } ∧
    ∀ v, v ≠ u → t.slot.get v = s.slot.get v ∧ t.com.get v = s.com.get v ∧ t.ocie.get v = s.ocie.get v := by
  obtain ⟨_, e⟩ | ⟨c, _, _, e⟩ | ⟨c, _, _, e⟩ := exec_dispatch_cases u s <;> rw [e] at h <;> injection h with h <;> subst h <;>
    exact ⟨rfl, fun v hv => by simp [PerUnit.get_set_ne _ _ hv]⟩

/-- What the step of an agent can do, by the agent (rules R8, R170). -/
theorem turnStep_cases {turn : Turn} {s t : State} (h : turnStep turn s = .next t) :
    (turn = .host ∧ hostStep s = .next t) ∨
    (turn = .timer ∧ t = timerStep s) ∨
    (turn = .interruptUnit ∧ interruptStep s = .next t) ∨
    (turn = .reset ∧ t = externalReset s) := by
  cases turn
  · exact .inl ⟨rfl, h⟩
  · exact .inr (.inl ⟨rfl, (by injection h with h; exact h.symm)⟩)
  · exact .inr (.inr (.inl ⟨rfl, h⟩))
  · exact .inr (.inr (.inr ⟨rfl, (by injection h with h; exact h.symm)⟩))

/-- What a step can do, by whose turn it is (rules R8, R170). -/
theorem step_cases {s t : State} (h : step s = .next t) :
    (nextTurn s = .host ∧ hostStep (takeTurn s) = .next t) ∨
    (nextTurn s = .timer ∧ t = timerStep (takeTurn s)) ∨
    (nextTurn s = .interruptUnit ∧ interruptStep (takeTurn s) = .next t) ∨
    (nextTurn s = .reset ∧ t = externalReset (takeTurn s)) := turnStep_cases h

end Sys2Proof.Machine
end

