-- ==== Sys2Proof/Laws/Decode.lean ====
section
/-! SUPPORT. The fields of an assembled word are what it was assembled from (rule R81). -/

namespace Sys2Proof

/-- A field above the low part of a concatenation is a field of the high part. -/
theorem field_of_high {n m : Nat} (a : BitVec n) (b : BitVec m) (start len : Nat) :
    (a ++ b).extractLsb' (start + m) len = a.extractLsb' start len := by
  ext k hk
  simp only [BitVec.getElem_extractLsb', BitVec.getLsbD_append]
  rw [if_neg (by omega)]
  congr 1
  omega

/-- The low part of a concatenation. -/
theorem field_of_low {n m : Nat} (a : BitVec n) (b : BitVec m) : (a ++ b).extractLsb' 0 m = b := by
  ext k hk
  simp [BitVec.getLsbD_append, hk]

/-- All of a bit vector. -/
theorem field_whole {n : Nat} (a : BitVec n) : a.extractLsb' 0 n = a := by
  ext k hk
  simp

variable (op p : Byte) (x y : Half)

theorem zField_wordOf : zField (wordOf op p x y) = 0 := field_of_low (op ++ p ++ x ++ y) 0#16

theorem yField_wordOf : yField (wordOf op p x y) = y :=
  (field_of_high (op ++ p ++ x ++ y) 0#16 0 16).trans (field_of_low (op ++ p ++ x) y)

theorem xField_wordOf : xField (wordOf op p x y) = x :=
  (field_of_high (op ++ p ++ x ++ y) 0#16 16 16).trans
    ((field_of_high (op ++ p ++ x) y 0 16).trans (field_of_low (op ++ p) x))

theorem pField_wordOf : pField (wordOf op p x y) = p :=
  (field_of_high (op ++ p ++ x ++ y) 0#16 32 8).trans
    ((field_of_high (op ++ p ++ x) y 16 8).trans
      ((field_of_high (op ++ p) x 0 8).trans (field_of_low op p)))

theorem opField_wordOf : opField (wordOf op p x y) = op :=
  (field_of_high (op ++ p ++ x ++ y) 0#16 40 8).trans
    ((field_of_high (op ++ p ++ x) y 24 8).trans
      ((field_of_high (op ++ p) x 8 8).trans ((field_of_high op p 0 8).trans (field_whole op))))

/-- Masking a concatenation masks its parts. -/
theorem append_and_append {n m : Nat} (a c : BitVec n) (b d : BitVec m) :
    (a ++ b) &&& (c ++ d) = (a &&& c) ++ (b &&& d) := by
  ext k hk
  simp only [BitVec.getElem_and, BitVec.getElem_append]
  split <;> rfl

/-- Masking an assembled word masks its fields. -/
theorem wordOf_and (mop mp : Byte) (mx my mz : Half) :
    wordOf op p x y &&& (mop ++ mp ++ mx ++ my ++ mz : CommandWord) =
      wordOf (op &&& mop) (p &&& mp) (x &&& mx) (y &&& my) := by
  unfold wordOf
  refine (append_and_append (op ++ p ++ x ++ y) (mop ++ mp ++ mx ++ my) 0#16 mz).trans ?_
  rw [append_and_append, append_and_append, append_and_append, BitVec.zero_and]

/-- Two neighbouring fields are one field. -/
theorem fields_join {n : Nat} (w : BitVec n) (start lo hi : Nat) :
    w.extractLsb' (start + lo) hi ++ w.extractLsb' start lo = w.extractLsb' start (hi + lo) := by
  ext k hk
  simp only [BitVec.getElem_append, BitVec.getElem_extractLsb']
  split
  · rfl
  · congr 1; omega

/-- A word whose `Z` is zero is the word of its other fields. -/
theorem wordOf_fields (w : CommandWord) (h : zField w = 0) :
    wordOf (opField w) (pField w) (xField w) (yField w) = w := by
  have hz : 0#16 = w.extractLsb' 0 16 := h.symm
  unfold wordOf opField pField xField yField
  rw [hz]
  calc w.extractLsb' 56 8 ++ w.extractLsb' 48 8 ++ w.extractLsb' 32 16 ++ w.extractLsb' 16 16 ++ w.extractLsb' 0 16
      = w.extractLsb' 48 16 ++ w.extractLsb' 32 16 ++ w.extractLsb' 16 16 ++ w.extractLsb' 0 16 := by
        rw [fields_join w 48 8 8]
    _ = w.extractLsb' 32 32 ++ w.extractLsb' 16 16 ++ w.extractLsb' 0 16 := by rw [fields_join w 32 16 16]
    _ = w.extractLsb' 16 48 ++ w.extractLsb' 0 16 := by rw [fields_join w 16 16 32]
    _ = w.extractLsb' 0 64 := by rw [fields_join w 0 16 48]
    _ = w := field_whole w

/-- What a word that the decoder accepts is (rule R85): the fields of one of the four formats. -/
theorem decode_ok_cases {w : CommandWord} {i : Instr} (h : decode w = .ok i) :
    zField w = 0 ∧
    ((opField w = opAttach ∧ xField w = 0 ∧ yField w = 0 ∧ i = .attach (pField w)) ∨
     (opField w = opAttachMinmax ∧ i = .attachMinmax (pField w) (xField w) (yField w)) ∨
     (opField w = opWriteAngle ∧ yField w = 0 ∧ i = .writeAngle (pField w) (signedHalf (xField w))) ∨
     (opField w = opDispatch ∧ (pField w).extractLsb' 1 7 = 0 ∧ xField w = 0 ∧ yField w = 0 ∧
       i = .dispatch (unitOfBit ((pField w).getLsbD 0)))) := by
  unfold decode at h
  dsimp only at h
  split_ifs at h <;> (injection h with h; subst h; simp_all)

/-- What the decoder gives on the fields of each format. -/
theorem decode_wordOf (op p : Byte) (x y : Half) :
    decode (wordOf op p x y) =
      if op = opAttach then
        if x ≠ 0 then .error .xNotZero else if y ≠ 0 then .error .yNotZero else .ok (.attach p)
      else if op = opAttachMinmax then .ok (.attachMinmax p x y)
      else if op = opWriteAngle then
        if y ≠ 0 then .error .yNotZero else .ok (.writeAngle p (signedHalf x))
      else if op = opDispatch then
        if p.extractLsb' 1 7 ≠ 0 then .error .unitAboveOne
        else if x ≠ 0 then .error .xNotZero
        else if y ≠ 0 then .error .yNotZero
        else .ok (.dispatch (unitOfBit (p.getLsbD 0)))
      else .error .undefinedOpcode := by
  unfold decode
  dsimp only
  rw [opField_wordOf, pField_wordOf, xField_wordOf, yField_wordOf, zField_wordOf, if_neg (not_not_intro rfl)]

end Sys2Proof
end

