-- ==== Sys2Proof/Laws/Flags.lean ====
section
/-! SUPPORT. The derived flags and the pins in terms of the fields, what the first half of WRITE_ANGLE writes, and that the
invariants depend on the spec's fields alone. -/

namespace Sys2Proof.Machine

theorem connected_iff (u : CompareUnit) (s : State) :
    connected u s = true ↔ s.ocie.get u = true ∧ s.com.get u = Config.comConnected := by
  simp [connected]

theorem bothEmpty_iff (s : State) : bothEmpty s = true ↔ ∀ u, s.slot.get u = none := by
  constructor
  · intro h u
    cases u <;> simp_all [bothEmpty]
  · intro h
    simp [bothEmpty, show s.slot.a = none from h .a, show s.slot.b = none from h .b]

theorem bothEmpty_of_filled {s : State} {u : CompareUnit} {c : Channel} (h : s.slot.get u = some c) :
    bothEmpty s = false := by
  rw [← Bool.not_eq_true, bothEmpty_iff]
  intro all
  rw [all u] at h
  cases h

/-- Whether the slots are empty depends on which slots are. -/
theorem bothEmpty_congr {s t : State} (h : ∀ u, t.slot.get u = none ↔ s.slot.get u = none) : bothEmpty t = bothEmpty s := by
  rw [Bool.eq_iff_iff, bothEmpty_iff, bothEmpty_iff]
  exact forall_congr' h

theorem configured_iff (s : State) :
    configured s = true ↔ s.wgm = Config.wgmFastPwm ∧ s.cs = Config.csDivideBy8 ∧ s.top = Config.topValue := by
  simp [configured, and_assoc]

theorem anyDeliverable_iff (s : State) :
    anyDeliverable s = true ↔ ∃ u, s.ocf.get u = true ∧ s.ocie.get u = true := by
  constructor
  · intro h
    rcases Bool.or_eq_true_iff.mp h with h | h
    · exact ⟨.a, Bool.and_eq_true_iff.mp h⟩
    · exact ⟨.b, Bool.and_eq_true_iff.mp h⟩
  · rintro ⟨u, h⟩
    have hu : deliverable u s = true := Bool.and_eq_true_iff.mpr h
    cases u <;> simp [anyDeliverable, hu]

/-- The unit that DELIVER takes is pending and enabled. -/
theorem deliverUnit_deliverable {s : State} (h : anyDeliverable s = true) : deliverable (deliverUnit s) s = true := by
  unfold deliverUnit
  cases ha : deliverable .a s
  · simpa [anyDeliverable, ha] using h
  · exact ha

theorem pinOf_of_unitOf {c : Config} {pin : Byte} {u : CompareUnit} (h : unitOf c pin = some u) : pin = pinOf c u := by
  unfold unitOf at h
  split_ifs at h with h₁ h₂ <;> injection h with h <;> subst h <;> assumption

theorem unitOf_pinOf {c : Config} (h : c.pinA ≠ c.pinB) (u : CompareUnit) : unitOf c (pinOf c u) = some u := by
  cases u <;> simp [unitOf, pinOf, h.symm]

theorem unitOf_unsupported {c : Config} {pin : Byte} (ha : pin ≠ c.pinA) (hb : pin ≠ c.pinB) : unitOf c pin = none := by
  simp [unitOf, ha, hb]

/-! ### The first half of WRITE_ANGLE (rule R110) -/

theorem connected_enterCritical (u : CompareUnit) (s : State) : connected u (enterCritical s) = connected u s := rfl

theorem beginWrite_com (u : CompareUnit) (w : Half) (s : State) :
    (beginWrite u w s).com = s.com.set u Config.comConnected := by
  have same : connected u s = true → s.com = s.com.set u Config.comConnected := fun h => by
    rw [← ((connected_iff u s).mp h).2, PerUnit.set_get]
  unfold beginWrite
  cases h : connected u s <;> cases k : s.cfg.writeResetsWindow <;> simp [connected_enterCritical, h, k]
  all_goals exact same h

theorem beginWrite_ocie (u : CompareUnit) (w : Half) (s : State) :
    (beginWrite u w s).ocie = s.ocie.set u true := by
  have same : connected u s = true → s.ocie = s.ocie.set u true := fun h => by
    rw [← ((connected_iff u s).mp h).1, PerUnit.set_get]
  unfold beginWrite
  cases h : connected u s <;> cases k : s.cfg.writeResetsWindow <;> simp [connected_enterCritical, h, k]
  all_goals exact same h

theorem beginWrite_ocf (u : CompareUnit) (w : Half) (s : State) :
    (beginWrite u w s).ocf = bif !connected u s && s.cfg.connectClearsPending then s.ocf.set u false else s.ocf := by
  unfold beginWrite
  cases h : connected u s <;> cases k : s.cfg.writeResetsWindow <;> cases c : s.cfg.connectClearsPending <;>
    simp [connected_enterCritical, h, k, c]

theorem beginWrite_slot (u : CompareUnit) (w : Half) (s : State) :
    (beginWrite u w s).slot =
      bif s.cfg.writeResetsWindow then s.slot.set u ((s.slot.get u).map fun c => { c with pulseCount := 0 })
      else s.slot := by
  unfold beginWrite
  cases h : connected u s <;> cases k : s.cfg.writeResetsWindow <;> simp [connected_enterCritical, h, k]

/-! ### The invariants -/

/-- The invariants speak of these fields and no other. -/
theorem Inv.of_same {s t : State} (h : Inv s) (slot : t.slot = s.slot) (cnt : t.cnt = s.cnt) (top : t.top = s.top)
    (wgm : t.wgm = s.wgm) (cs : t.cs = s.cs) (com : t.com = s.com) (ocie : t.ocie = s.ocie) (iflag : t.iflag = s.iflag)
    (dir : t.dir = s.dir) (inflight : t.inflight = s.inflight) (cfg : t.cfg = s.cfg) : Inv t := by
  obtain ⟨⟨a₁, a₂, a₃, a₄, a₅, a₆, a₇⟩, b₁, b₂, b₃, b₄, b₅, b₆⟩ := h
  refine ⟨⟨?_, ?_, ?_, ?_, ?_, ?_, ?_⟩, ?_, ?_, ?_, ?_, ?_, ?_⟩ <;>
    simp only [bothEmpty, configured, connected, pinOf, slot, cnt, top, wgm, cs, com, ocie, iflag, dir, inflight, cfg] at * <;>
    assumption

end Sys2Proof.Machine
end

