-- ==== Sys2Proof/Laws/PerInstr.lean ====
section
/-! SUPPORT. One statement per command: its word has the fixed bits of its row of the opcode table. And the rows do not
overlap. -/

namespace Sys2Proof.Laws

/-- No word matches two rows. -/
theorem rows_disjoint : opcodeTable.Pairwise (fun r t => r.disjoint t = true) := by decide

/-- The encoding of `i` has its row's fixed bits (rule R82). -/
def TableRow.Statement (i : Instr) : Prop := i.row.covers (encode i) = true

/-- A word covered field by field is covered. -/
theorem covers_wordOf {r : OpcodeRow} (op p : Byte) (x y : Half) (mop mp : Byte) (mx my mz : Half)
    (hmask : r.mask = (mop ++ mp ++ mx ++ my ++ mz : CommandWord))
    (hpattern : r.pattern = wordOf (op &&& mop) (p &&& mp) (x &&& mx) (y &&& my)) :
    r.covers (wordOf op p x y) = true := by
  rw [OpcodeRow.covers, hmask, hpattern, wordOf_and, beq_self_eq_true]

theorem TableRow.attach (pin : Byte) : TableRow.Statement (.attach pin) :=
  covers_wordOf opAttach pin 0 0 0xFF 0#8 0xFFFF 0xFFFF 0xFFFF rfl (by rw [BitVec.and_zero]; rfl)

theorem TableRow.attachMinmax (pin : Byte) (minPW maxPW : Half) : TableRow.Statement (.attachMinmax pin minPW maxPW) :=
  covers_wordOf opAttachMinmax pin minPW maxPW 0xFF 0#8 0#16 0#16 0xFFFF rfl (by simp only [BitVec.and_zero]; rfl)

theorem TableRow.writeAngle (pin : Byte) (angle : Int) : TableRow.Statement (.writeAngle pin angle) :=
  covers_wordOf opWriteAngle pin (BitVec.ofInt 16 angle) 0 0xFF 0#8 0#16 0xFFFF 0xFFFF rfl
    (by simp only [BitVec.and_zero]; rfl)

theorem TableRow.dispatch (u : CompareUnit) : TableRow.Statement (.dispatch u) := by
  cases u <;> rfl

end Sys2Proof.Laws
end

