-- ==== Sys2Proof/Laws/RegisterSpace.lean ====
section
/-! SUPPORT. The image of the register space is canonical: its one write keeps the form, so every image has it; what the byte
view reads. -/

namespace Sys2Proof.Machine

/-- What a write leaves at the head: the new address, or the old head's. -/
theorem Memory.write_head (a : Nat) (v : Byte) (k : Nat) (w : Byte) (rest : List Host.Cell) :
    (∃ tail, Memory.write a v ((k, w) :: rest) = (a, v) :: tail ∧ a ≤ k) ∨
    (∃ tail, Memory.write a v ((k, w) :: rest) = (k, w) :: tail ∧ k < a) := by
  unfold Memory.write
  split
  · next h => exact .inl ⟨_, rfl, h.le⟩
  · split
    · next h => exact .inl ⟨_, rfl, h.le⟩
    · exact .inr ⟨_, rfl, by omega⟩

/-- The write of a byte keeps the canonical form. -/
theorem Memory.write_wf (a : Nat) (v : Byte) :
    ∀ m : List Host.Cell, Memory.wf m = true → Memory.wf (Memory.write a v m) = true
  | [], _ => rfl
  | [(k, w)], _ => by
    unfold Memory.write
    split
    · next h => simp [Memory.wf, h]
    · split
      · rfl
      · simp only [Memory.write, Memory.wf, Bool.and_true, decide_eq_true_eq]
        omega
  | (k, w) :: (j, x) :: rest, hm => by
    have hm' : k < j ∧ Memory.wf ((j, x) :: rest) = true := by simpa [Memory.wf] using hm
    unfold Memory.write
    split
    · next h => simpa [Memory.wf, h] using hm'
    · split
      · next h => subst h; simpa [Memory.wf] using hm'
      · have ih := Memory.write_wf a v ((j, x) :: rest) hm'.2
        obtain ⟨tail, ht, hle⟩ | ⟨tail, ht, hle⟩ := Memory.write_head a v j x rest
        · rw [ht] at ih ⊢
          simp only [Memory.wf, ih, Bool.and_true, decide_eq_true_eq]
          omega
        · rw [ht] at ih ⊢
          simpa [Memory.wf, ih] using hm'.1

/-- Every image of the register space is canonical, the reset state's among them. -/
theorem registerImage_wf (s : State) : Memory.wf (registerImage s) = true := by
  unfold registerImage
  induction registerBytes s with
  | nil => rfl
  | cons c rest ih => exact Memory.write_wf _ _ _ ih

/-- A cell list reads the same at `a` once a cell at another address is put before it. -/
theorem readCell_cons_ne {a k : Nat} (v : Byte) (m : List Host.Cell) (h : k ≠ a) :
    readCell a ((k, v) :: m) = readCell a m := by simp [readCell, h]

/-- Two lists that differ only in the bytes of cells at other addresses read the same at `a`. -/
theorem readCell_append (a : Nat) (m n : List Host.Cell) :
    readCell a (m ++ n) = (readCell a m).or (readCell a n) := by
  induction m with
  | nil => rfl
  | cons c m ih =>
    obtain ⟨k, v⟩ := c
    by_cases h : k = a <;> simp [readCell, h, ih]

/-- An address that no register of a list covers reads as nothing in the list's cells. -/
theorem regCells_address (s : State) (r : Reg) {a : Nat} {v : Byte} (h : (a, v) ∈ regCells s r) :
    r.address s.cfg.regs ≤ a ∧ a < r.address s.cfg.regs + r.bytes := by
  unfold regCells at h
  dsimp only at h
  split at h
  · next hb => simp at h; omega
  · simp at h
    cases r <;> simp_all [Reg.bytes]

/-- A memory access is the access by name of the register that stands there (rule R64). -/
theorem memRead_eq (address n : Nat) (s : State) :
    memRead address n s =
      (regAt s.cfg.regs address n).elim (.error (.registerAccess address n)) (fun r => .ok (regRead r s)) := by
  unfold memRead
  split <;> simp_all

end Sys2Proof.Machine
end

