-- ==== Sys2Proof/Laws/Timer.lean ====
section
/-! SUPPORT. What a tick does to the compare values in force, the pending flags and the levels, unit by unit (rule R150). -/

namespace Sys2Proof

/-- A conditional write of a pair, read back. -/
theorem PerUnit.get_cond_set {α : Type} (c : Bool) (p : PerUnit α) (u v : CompareUnit) (w : α) :
    (bif c then p.set u w else p).get v = bif v == u && c then w else p.get v := by
  cases c <;> cases u <;> cases v <;> rfl

theorem CompareUnit.a_beq_b : (CompareUnit.a == CompareUnit.b) = false := rfl
theorem CompareUnit.b_beq_a : (CompareUnit.b == CompareUnit.a) = false := rfl

namespace Machine

theorem startUnit_ocrAct_get (u v : CompareUnit) (s : State) :
    (startUnit u s).ocrAct.get v =
      bif v == u && s.cfg.ocrUpdate == .atBottom then s.ocr.get v else s.ocrAct.get v := by
  rw [startUnit_ocrAct, PerUnit.get_cond_set]
  cases u <;> cases v <;> rfl

theorem startUnit_level_get (u v : CompareUnit) (s : State) :
    (startUnit u s).level.get v = bif v == u && s.com.get v == Config.comConnected then true else s.level.get v := by
  rw [startUnit_level, PerUnit.get_cond_set]
  cases u <;> cases v <;> rfl

theorem matchUnit_ocf_get (u v : CompareUnit) (s : State) :
    (matchUnit u s).ocf.get v = bif v == u && s.cnt == s.ocrAct.get v then true else s.ocf.get v := by
  rw [matchUnit_ocf, PerUnit.get_cond_set]
  cases u <;> cases v <;> rfl

theorem matchUnit_level_get (u v : CompareUnit) (s : State) :
    (matchUnit u s).level.get v =
      bif v == u && (s.cnt == s.ocrAct.get v && s.com.get v == Config.comConnected) then false else s.level.get v := by
  rw [matchUnit_level, PerUnit.get_cond_set]
  cases u <;> cases v <;> rfl

/-- The compare value in force after a tick. -/
theorem tick_ocrAct_get (u : CompareUnit) (s : State) : (tick s).ocrAct.get u = comparedValue u s := by
  unfold tick comparedValue wouldStart
  simp only [matchUnit_ocrAct]
  cases h : nextCount s == 0 <;> cases u <;>
    simp only [setCnt_cnt, h, cond_true, cond_false, setCnt_ocrAct, startUnit_ocrAct_get, beq_self_eq_true,
      CompareUnit.a_beq_b, CompareUnit.b_beq_a, Bool.true_and, Bool.false_and, startUnit_cfg, startUnit_ocr, setCnt_cfg,
      setCnt_ocr]

/-- A match sets the pending flag, whatever `OCIE` holds. -/
theorem tick_ocf_get (u : CompareUnit) (s : State) : (tick s).ocf.get u = (s.ocf.get u || wouldMatch u s) := by
  rw [wouldMatch, ← tick_ocrAct_get u s, Bool.or_comm, ← Bool.cond_true_left]
  unfold tick
  cases h : nextCount s == 0 <;> cases u <;>
    simp only [setCnt_cnt, h, cond_true, cond_false, matchUnit_ocf_get, matchUnit_ocrAct, matchUnit_cnt, beq_self_eq_true,
      CompareUnit.a_beq_b, CompareUnit.b_beq_a, Bool.true_and, Bool.false_and, startUnit_ocf, setCnt_ocf, startUnit_cnt]

/-- A connected unit's level after a tick: a match wins over a period start. -/
theorem tick_level_get (u : CompareUnit) (s : State) :
    (tick s).level.get u =
      bif s.com.get u == Config.comConnected then
        bif wouldMatch u s then false else bif wouldStart s then true else s.level.get u
      else s.level.get u := by
  rw [wouldMatch, ← tick_ocrAct_get u s]
  unfold tick wouldStart
  cases h : nextCount s == 0 <;> cases u <;>
    simp only [setCnt_cnt, h, cond_true, cond_false, matchUnit_level_get, matchUnit_ocrAct, matchUnit_cnt, matchUnit_com,
      startUnit_com, setCnt_com, beq_self_eq_true, CompareUnit.a_beq_b, CompareUnit.b_beq_a, Bool.true_and, Bool.false_and,
      startUnit_level_get, setCnt_level, startUnit_cnt]
  all_goals
    generalize (nextCount s == _) = b
    generalize (_ == Config.comConnected) = c
    cases b <;> cases c <;> rfl

/-- A period start clears the mark of a connect (log 15). -/
theorem tick_levelOpen_get (u : CompareUnit) (s : State) :
    (tick s).levelOpen.get u = bif wouldStart s then false else s.levelOpen.get u := by
  unfold tick wouldStart
  cases h : nextCount s == 0 <;> cases u <;>
    simp only [setCnt_cnt, h, cond_true, cond_false, matchUnit_levelOpen, startUnit_levelOpen, setCnt_levelOpen] <;> rfl

end Machine

end Sys2Proof
end

