-- ==== Sys2Proof/Tests/Slice0.lean ====
section
/-! SUPPORT. The model's own tests: expected results from spec/95_test_vectors.md, or by hand from the rules named; and for
every statement with hypotheses a state and operands that meet them all. -/

namespace Sys2Proof.Tests

open Sys2Proof.Machine

/-! ### WellFormed (rules R11, R83) -/

/-- The one check: an angle outside 16 bits is refused, on both sides; the ends of the range pass. -/
theorem test_wf_refuses_angles : (Instr.writeAngle 9 32768).wf = false ∧ (Instr.writeAngle 9 (-32769)).wf = false ∧
    (Instr.writeAngle 9 32767).wf = true ∧ (Instr.writeAngle 9 (-32768)).wf = true := by decide

/-! ### Decoding: words written out from rules R81, R82 and R84 -/

/-- OP = 00000001, P = 00001001, X = Y = Z = 0. -/
theorem test_decode_attach :
    decode (0b0000000100001001000000000000000000000000000000000000000000000000#64) = .ok (.attach 9) := rfl

/-- OP = 00000010, P = 00001010, X = 1000, Y = 2500: vector E3. -/
theorem test_decode_attachMinmax :
    decode (0b0000001000001010000000111110100000001001110001000000000000000000#64) =
      .ok (.attachMinmax 10 1000 2500) := rfl

/-- OP = 00000011, P = 00001001, X = sixteen-bit -5: vector E9. -/
theorem test_decode_writeAngle_negative :
    decode (0b0000001100001001111111111111101100000000000000000000000000000000#64) = .ok (.writeAngle 9 (-5)) := rfl

/-- Vectors E10 and E11: the ends of the angle's range. -/
theorem test_decode_writeAngle_ends : decode 0x0309800000000000 = .ok (.writeAngle 9 (-32768)) ∧
    decode 0x030A7FFF00000000 = .ok (.writeAngle 10 32767) := ⟨rfl, rfl⟩

/-- OP = 00010000, P[0] names the unit: vectors E12 and E13. -/
theorem test_decode_dispatch :
    decode (0b0001000000000000000000000000000000000000000000000000000000000000#64) = .ok (.dispatch .a) ∧
    decode (0b0001000000000001000000000000000000000000000000000000000000000000#64) = .ok (.dispatch .b) := ⟨rfl, rfl⟩

/-- Vectors E14 to E22: every kind of illegal word, by its reason. -/
theorem test_decode_illegal : decode 0x0000000000000000 = .error .undefinedOpcode ∧
    decode 0xFFFFFFFFFFFFFFFF = .error .zNotZero ∧ decode 0x0409000000000000 = .error .undefinedOpcode ∧
    decode 0x010903E800000000 = .error .xNotZero ∧ decode 0x0309000000010000 = .error .yNotZero ∧
    decode 0x0109000000000001 = .error .zNotZero ∧ decode 0x1002000000000000 = .error .unitAboveOne ∧
    decode 0x10FF000000000000 = .error .unitAboveOne ∧ decode 0x1000000100000000 = .error .xNotZero :=
  ⟨rfl, rfl, rfl, rfl, rfl, rfl, rfl, rfl, rfl⟩

/-- The byte order of rule R80, on the example under the vectors. -/
theorem test_bytes : bytesOfWord 0x020A03E809C40000 = [0x00, 0x00, 0xC4, 0x09, 0xE8, 0x03, 0x0A, 0x02] := rfl

/-- The opcode table's `nbits` and numbering; a word wider than 64 bits is none. -/
theorem test_decodeTableWord : decodeTableWord 64 0x0109000000000000 = some (.attach 9) ∧
    decodeTableWord 72 0x010109000000000000 = none := by decide

/-! ### States -/

/-- The result of a meaning. -/
def after : Host.Outcome State Fault Refusal → State
  | .next t => t
  | .fault _ => .reset
  | .refused _ => .reset

/-- After vector A1: channel A registered, the timer configured. -/
def oneChannel : State :=
  { State.reset with
    slot := ⟨some ⟨9, 1000, 2500, 0⟩, none⟩
    top := 20000
    wgm := 0b1110
    cs := 0b010
    iflag := true
    dir := ⟨.output, .input⟩ }

/-- Channel A connected at 90 degrees, at a count inside its pulse, its pin high. -/
def inPulse : State :=
  { oneChannel with
    com := ⟨0b10, 0b00⟩
    ocie := ⟨true, false⟩
    ocr := ⟨1750, 0⟩
    ocrAct := ⟨1750, 0⟩
    cnt := 10
    level := ⟨true, false⟩ }

/-- Channel A connected, its match pending, `n` events counted. -/
def matchPending (n : Byte) : State :=
  { inPulse with
    slot := ⟨some ⟨9, 1000, 2500, n⟩, none⟩
    cnt := 1750
    ocf := ⟨true, false⟩
    level := ⟨false, false⟩ }

/-- A WRITE_ANGLE of channel A between its halves. -/
def writing : State :=
  { inPulse with iflag := false, inflight := some ⟨.a, 1375⟩ }

/-- `s` with a command word to issue and the HOST's turn. -/
def hostWith (w : CommandWord) (s : State) : State := { s with commands := [w], turns := [.host] }

/-- `s` with a turn to take. -/
def turnOf (t : Turn) (s : State) : State := { s with turns := [t] }

/-! ### Commands -/

/-- Vector A1. -/
theorem test_attach_first : (let t := after (exec (.attach 9) .reset)
    t.slot = ⟨some ⟨9, 1000, 2500, 0⟩, none⟩ ∧ t.top = 20000 ∧ ctrlA t = 0x02 ∧ ctrlB t = 0x1A ∧ t.iflag = true ∧
    pindir t = 0b01 ∧ t.result = some .ok) := by decide

/-- Vector A2. -/
theorem test_attach_bad_pin : exec (.attach 11) .reset = .next { State.reset with result := some .ignoredBadPin } := rfl

/-- Vector A5: the second attach leaves the timer alone. -/
theorem test_attachMinmax_second : (let t := after (exec (.attachMinmax 10 2000 1000) { oneChannel with cnt := 12345 })
    t.slot.b = some ⟨10, 2000, 1000, 0⟩ ∧ t.cnt = 12345 ∧ ctrlB t = 0x1A ∧ pindir t = 0b11) := by decide

/-- Vector A4. -/
theorem test_attachMinmax_occupied :
    exec (.attachMinmax 9 544 2400) oneChannel = .next { oneChannel with result := some .ignoredOccupied } := rfl

/-- Program P1: a write of 90 degrees connects unit A in its first half and stores 1750 in its second. -/
theorem test_writeAngle_halves : (let t := after (exec (.writeAngle 9 90) oneChannel)
    ctrlA t = 0x82 ∧ imsk t = 0x02 ∧ t.iflag = false ∧ t.ocr.a = 0 ∧ t.inflight = some ⟨.a, 1750⟩ ∧
    (finishWrite ⟨.a, 1750⟩ t).ocr.a = 1750 ∧ (finishWrite ⟨.a, 1750⟩ t).iflag = true) := by decide

/-- Rule R112 with the bounds the wrong way round: one degree of 2000..1000 is 1995 (truncation, not floor). -/
theorem test_map_truncates : mapWidth 1 2000 1000 = 1995 ∧ mapWidth 91 1000 2500 = 1758 := by decide

/-- Rule R132: the fiftieth event disconnects and the count returns to 0. -/
theorem test_dispatch_fiftieth : (let t := after (exec (.dispatch .a) (matchPending 49))
    ctrlA t = 0x02 ∧ imsk t = 0x00 ∧ t.slot.a = some ⟨9, 1000, 2500, 0⟩ ∧ t.ocf.a = true ∧ t.result = some .ok) := by
  decide

/-- Rule R130: no channel. -/
theorem test_dispatch_no_channel :
    exec (.dispatch .b) oneChannel = .next { oneChannel with result := some .ignoredNoChannel } := rfl

/-! ### The other agents -/

/-- Rule R150: the top of count, a period start, the compare value loaded, the pin raised. -/
theorem test_tick_wraps : (let t := tick { inPulse with cnt := 19999, level := .both false, ocr := ⟨1375, 0⟩ }
    t.cnt = 0 ∧ t.ocrAct.a = 1375 ∧ t.level.a = true ∧ t.ocf.a = false) := by decide

/-- Rule R150: the match, and the flag of the unconnected unit B with it when the compare values agree. -/
theorem test_tick_matches : (let t := tick { inPulse with cnt := 1749, ocrAct := .both 1750 }
    t.cnt = 1750 ∧ t.level.a = false ∧ t.ocf = .both true) := by decide

/-- Rules R153, R154: delivery clears the flag, counts and returns with `I = 1`; the HOST's result stays. -/
theorem test_deliver : (let t := after (step (turnOf .interruptUnit (matchPending 7)))
    t.ocf.a = false ∧ t.iflag = true ∧ t.slot.a = some ⟨9, 1000, 2500, 8⟩ ∧ t.result = none) := by decide

/-- The host's placing of a word: ATTACH 9 runs as the first step after reset. -/
theorem test_withFetchWord : (after (step (State.reset.withFetchWord 64 0x0109000000000000))).slot.a =
    some ⟨9, 1000, 2500, 0⟩ := by decide

/-- Rules R62, R64, R65: `CTRL_A` at 0x80, a whole 16-bit register, and its bytes. -/
theorem test_registers : memRead 0x80 1 inPulse = .ok 0x82 ∧ memRead 0x86 2 inPulse = .ok 20000 ∧
    memRead 0x86 1 inPulse = .error (.registerAccess 0x86 1) ∧ observeByte 0x87 inPulse = some 0x4E := ⟨rfl, rfl, rfl, rfl⟩

/-- Rule R89: one line of text. -/
theorem test_assemble : assembleLine ['w', 'r', 'i', 't', 'e', '_', 'a', 'n', 'g', 'l', 'e', ' ', '9', ',', ' ', '-', '5',
    ' ', ';', 'x'] = .ok (some 0x0309FFFB00000000) := by decide

/-- The core's machine is this one. -/
theorem test_core_run : core.run 1 (hostWith 0x0109000000000000 .reset) =
    .next { oneChannel with result := some .ok, freeIndex := 1 } := rfl

/-! ### The hypotheses of the statements are met -/

theorem witness_DecodeOfEncode : (Instr.writeAngle 255 (-32768)).WellFormed ∧ (Instr.writeAngle 0 32767).WellFormed ∧
    (Instr.attachMinmax 255 65535 0).WellFormed ∧ (Instr.attach 9).WellFormed ∧ (Instr.dispatch .b).WellFormed := by decide

theorem witness_EncodeOfDecode : decode 0x02FFFFFF00000000 = .ok (.attachMinmax 255 65535 0) ∧
    decode 0x0109000000000000 = .ok (.attach 9) ∧ decode 0x0309800000000000 = .ok (.writeAngle 9 (-32768)) ∧
    decode 0x1001000000000000 = .ok (.dispatch .b) := ⟨rfl, rfl, rfl, rfl⟩

theorem witness_IllegalWordsChangeNothing : (let s := hostWith 0x0109000000000001 oneChannel
    nextTurn s = .host ∧ s.inflight = none ∧ s.commands = 0x0109000000000001 :: [] ∧
    decode 0x0109000000000001 = .error .zNotZero) := ⟨rfl, rfl, rfl, rfl⟩

theorem witness_WordsAreEightLittleEndianBytes : (0 < 8 ∧ 7 < 8) ∧ (Instr.writeAngle 9 (-1)).WellFormed ∧
    ([] : List Byte).length < 8 ∧ (List.replicate 7 (0 : Byte)).length < 8 ∧
    decode 0xFFFFFFFFFFFFFFFF = .error .zNotZero := ⟨by decide, by decide, by decide, by decide, rfl⟩

theorem witness_HostStepRunsDecodedCommand : (let s := hostWith 0x0309005A00000000 oneChannel
    nextTurn s = .host ∧ s.inflight = none ∧ s.commands = 0x0309005A00000000 :: [] ∧
    decode 0x0309005A00000000 = .ok (.writeAngle 9 90) ∧
    (∀ u, Instr.writeAngle 9 90 = .dispatch u → s.cfg.injectDispatch = true)) :=
  ⟨rfl, rfl, rfl, rfl, fun _ h => by cases h⟩

theorem witness_HostStepRunsDecodedCommand_dispatch :
    (let s := hostWith 0x1000000000000000 { oneChannel with cfg := { injectDispatch := true } }
    nextTurn s = .host ∧ s.inflight = none ∧ s.commands = 0x1000000000000000 :: [] ∧
    decode 0x1000000000000000 = .ok (.dispatch .a) ∧
    (∀ u, Instr.dispatch .a = .dispatch u → s.cfg.injectDispatch = true)) :=
  ⟨rfl, rfl, rfl, rfl, fun _ _ => rfl⟩

theorem witness_LoadedWordRunsNext : decode 0x0109000000000000 = .ok (.attach 9) ∧
    (∀ u, Instr.attach 9 ≠ .dispatch u) ∧ decode 0x1001000000000000 = .ok (.dispatch .b) :=
  ⟨rfl, fun _ h => Instr.noConfusion h, rfl⟩

theorem witness_HostDispatchNeedsInjection : (let s := hostWith 0x1000000000000000 oneChannel
    nextTurn s = .host ∧ s.inflight = none ∧ s.commands = 0x1000000000000000 :: [] ∧
    decode 0x1000000000000000 = .ok (.dispatch .a) ∧ s.cfg.injectDispatch = false) ∧
    ({ oneChannel with cfg := { injectDispatch := true } } : State).cfg.injectDispatch = true ∧
    (∃ t, exec (.dispatch .a) oneChannel = .next t) := ⟨⟨rfl, rfl, rfl, rfl, rfl⟩, rfl, exec_next _ _⟩

theorem witness_HostTurnInFlightStoresWidth : nextTurn (turnOf .host writing) = .host ∧
    (turnOf .host writing).inflight = some ⟨.a, 1375⟩ := ⟨rfl, rfl⟩

/-- A tick that runs; and a stopped timer, a tick held by a pending match and one held by the latency hold. -/
theorem witness_TimerTurnTicksUnlessHeld :
    (let s := turnOf .timer inPulse
    nextTurn s = .timer ∧ s.cs = 0b010#3 ∧
    (∀ u, (tick s).cnt = (tick s).ocrAct.get u → ¬(s.ocf.get u = true ∧ s.ocie.get u = true)) ∧
    (s.cfg.strictLatency = true → (tick s).cnt = 0 → ∀ u, ¬(s.ocf.get u = true ∧ s.ocie.get u = true))) ∧
    (turnOf .timer .reset).cs ≠ 0b010#3 ∧
    (let s := turnOf .timer { matchPending 0 with cnt := 1749 }
    (tick s).cnt = (tick s).ocrAct.get .a ∧ s.ocf.get .a = true ∧ s.ocie.get .a = true) ∧
    (let s := turnOf .timer { matchPending 0 with cnt := 19999 }
    s.cfg.strictLatency = true ∧ (tick s).cnt = 0 ∧ s.ocf.get .a = true ∧ s.ocie.get .a = true) := by
  refine ⟨⟨rfl, rfl, ?_, ?_⟩, by decide, by decide, by decide⟩
  · intro u
    cases u <;> decide
  · intro _ h
    exact absurd h (by decide)

/-- The last count before the fiftieth event, the fiftieth, and unit B alone. -/
theorem witness_DeliveryCountsEvent :
    (∀ n : Byte, n = 0 ∨ n = 48 ∨ n = 49 → (let s := turnOf .interruptUnit (matchPending n)
    nextTurn s = .interruptUnit ∧ s.iflag = true ∧ s.ocf.get .a = true ∧ s.ocie.get .a = true ∧
    (CompareUnit.a = .b → ¬(s.ocf.a = true ∧ s.ocie.a = true)) ∧
    s.slot.get .a = some ⟨9, 1000, 2500, n⟩ ∧ n.toNat ≤ 49)) ∧
    (let s : State := { turnOf .interruptUnit (matchPending 0) with
        slot := ⟨none, some ⟨10, 1000, 2500, 49⟩⟩, ocf := .both true, ocie := ⟨false, true⟩ }
    nextTurn s = .interruptUnit ∧ s.iflag = true ∧ s.ocf.get .b = true ∧ s.ocie.get .b = true ∧
    ¬(s.ocf.a = true ∧ s.ocie.a = true) ∧ s.slot.get .b = some ⟨10, 1000, 2500, 49⟩) := by
  constructor
  · rintro n (rfl | rfl | rfl) <;> decide
  · decide

theorem witness_NoDeliveryWhileMaskedOrDisabled :
    (let s := turnOf .interruptUnit { matchPending 0 with iflag := false }
    nextTurn s = .interruptUnit ∧ s.iflag = false) ∧
    (∀ u, ¬(inPulse.ocf.get u = true ∧ inPulse.ocie.get u = true)) ∧
    (let s := turnOf .interruptUnit (matchPending 0)
    nextTurn s = .interruptUnit ∧ s.ocie.get .b = false ∧ ∃ t, step s = .next t) := by
  refine ⟨⟨rfl, rfl⟩, ?_, rfl, rfl, ⟨_, rfl⟩⟩
  intro u
  cases u <;> decide

theorem witness_ResetGivesEveryFieldItsValue :
    nextTurn (turnOf .reset inPulse) = .reset ∧ ∃ t, step (turnOf .reset inPulse) = .next t := ⟨rfl, ⟨_, rfl⟩⟩

theorem witness_NothingMovesUntilACommand : (let s := turnOf .timer .reset
    specPart s = specPart (externalReset s) ∧ s.commands = [] ∧ ∃ t, step s = .next t) := ⟨rfl, rfl, ⟨_, rfl⟩⟩

/-- The first attach writes `TOP`. -/
theorem witness_TopIsWrittenByTheFirstAttachOnly : (let s := hostWith 0x0109000000000000 .reset
    nextTurn s ≠ .reset ∧ bothEmpty s = true) ∧
    (∃ t, step (hostWith 0x0109000000000000 .reset) = .next t ∧ bothEmpty t = false ∧ t.top ≠ State.reset.top) :=
  ⟨by decide, ⟨_, rfl, rfl, by decide⟩⟩

/-- A disconnected unit, and the rule's example. -/
theorem witness_DisconnectClearsEnableAndMode : oneChannel.ocie.get .a = false ∧ oneChannel.com.get .a = 0b00#2 ∧
    (let s : State := { inPulse with com := .both 0b10, ocie := .both true }
    ctrlA s = 0xA2 ∧ imsk s = 0x06) := by decide

/-- A step that disconnects. -/
theorem witness_OnlyConnectAndDisconnectWriteEnables : (let s := turnOf .interruptUnit (matchPending 49)
    nextTurn s ≠ .reset ∧ ∃ t, step s = .next t ∧ t.ocie ≠ s.ocie) := ⟨by decide, ⟨_, rfl, by decide⟩⟩

/-- Both clauses, at the last count below the fiftieth event and at it. -/
theorem witness_HandleCountsThenDisconnects : (matchPending 48).slot.get .a = some ⟨9, 1000, 2500, 48⟩ ∧
    (48 : Byte).toNat + 1 < 50 ∧ (matchPending 49).slot.get .a = some ⟨9, 1000, 2500, 49⟩ ∧
    (49 : Byte).toNat ≤ 49 ∧ (49 : Byte).toNat + 1 = 50 := by decide

theorem witness_AttachClaimsEmptySlot : State.reset.cfg.pinA ≠ State.reset.cfg.pinB ∧
    State.reset.slot.get .a = none ∧ oneChannel.slot.get .b = none ∧
    (9 : Byte) = (if CompareUnit.a = .a then State.reset.cfg.pinA else State.reset.cfg.pinB) ∧
    (10 : Byte) = (if CompareUnit.b = .a then oneChannel.cfg.pinA else oneChannel.cfg.pinB) := by decide

theorem witness_IgnoredAttachChangesNothing :
    ((11 : Byte) ≠ oneChannel.cfg.pinA ∧ (11 : Byte) ≠ oneChannel.cfg.pinB) ∧
    oneChannel.cfg.pinA ≠ oneChannel.cfg.pinB ∧ (9 : Byte) = pinOf oneChannel.cfg .a ∧
    oneChannel.slot.get .a ≠ none := by decide

theorem witness_FilledSlotStaysUntilReset : (let s := turnOf .interruptUnit (matchPending 49)
    s.slot.get .a = some ⟨9, 1000, 2500, 49⟩ ∧ nextTurn s ≠ .reset ∧ s.cfg.pinA ≠ s.cfg.pinB) ∧
    ∃ t, step (turnOf .interruptUnit (matchPending 49)) = .next t := ⟨by decide, ⟨_, rfl⟩⟩

theorem witness_WriteAngleConnectsUnit : oneChannel.cfg.pinA ≠ oneChannel.cfg.pinB ∧
    oneChannel.slot.get .a = some ⟨9, 1000, 2500, 0⟩ := by decide

theorem witness_WriteAngleCompletesInTwoHostTurns :
    (let s : State := { oneChannel with turns := [.host, .host], commands := [0x0309005A00000000] }
    s.cfg.pinA ≠ s.cfg.pinB ∧ s.slot.get .a = some ⟨9, 1000, 2500, 0⟩ ∧ s.inflight = none ∧
    s.turns = .host :: .host :: [] ∧ s.commands = 0x0309005A00000000 :: [] ∧
    decode 0x0309005A00000000 = .ok (.writeAngle (pinOf s.cfg .a) 90)) :=
  ⟨by decide, rfl, rfl, rfl, rfl, rfl⟩

theorem witness_IgnoredWriteChangesNothing :
    ((11 : Byte) ≠ oneChannel.cfg.pinA ∧ (11 : Byte) ≠ oneChannel.cfg.pinB) ∧
    oneChannel.cfg.pinA ≠ oneChannel.cfg.pinB ∧ (10 : Byte) = pinOf oneChannel.cfg .b ∧
    oneChannel.slot.get .b = none := by decide

/-- Each clause at the ends of its range, with the rule's values. -/
theorem witness_AnglesAreClamped : clampAngle (-1) = 0 ∧ clampAngle (-32768) = 0 ∧ clampAngle 0 = 0 ∧
    clampAngle 180 = 180 ∧ clampAngle 181 = 180 ∧ clampAngle 32767 = 180 := by decide

theorem witness_MapIsExactWithinBounds : (0 : Int) ≤ 180 ∧ (180 : Int) ≤ 180 ∧ mapWidth 180 65535 0 = 0 ∧
    mapWidth 0 65535 0 = 65535 := by decide

theorem witness_MapIsMonotone : (0 : Int) ≤ 0 ∧ (0 : Int) ≤ 180 ∧ (180 : Int) ≤ 180 ∧
    (1000 : Half).toNat ≤ (2500 : Half).toNat ∧ (1000 : Half).toNat ≤ (2000 : Half).toNat := by decide

theorem witness_ConnectedWriteOnlyMovesCompareValue : inPulse.cfg.pinA ≠ inPulse.cfg.pinB ∧
    inPulse.slot.get .a = some ⟨9, 1000, 2500, 0⟩ ∧ inPulse.inflight = none ∧ connected .a inPulse = true := by decide

/-- Both settings of the parameter, the fiftieth event, and unit B behind a pending unit A and without one. -/
theorem witness_StaleMatchIsDeliveredAtConnect :
    (let s : State := { oneChannel with slot := ⟨some ⟨9, 1000, 2500, 49⟩, none⟩, ocf := ⟨true, false⟩ }
    s.cfg.pinA ≠ s.cfg.pinB ∧ s.slot.get .a = some ⟨9, 1000, 2500, 49⟩ ∧ (49 : Byte).toNat ≤ 49 ∧
    connected .a s = false ∧ s.ocf.get .a = true ∧ s.cfg.connectClearsPending = false ∧
    ¬(CompareUnit.a = .b ∧ s.ocf.a = true ∧ s.ocie.a = true) ∧ s.cfg.writeResetsWindow = false) ∧
    ({ oneChannel.cfg with connectClearsPending := true } : Config).connectClearsPending = true ∧
    (let s : State := { matchPending 3 with slot := ⟨some ⟨9, 1000, 2500, 3⟩, some ⟨10, 1000, 2500, 0⟩⟩, ocf := .both true }
    s.slot.get .b = some ⟨10, 1000, 2500, 0⟩ ∧ connected .b s = false ∧ s.ocf.get .b = true ∧
    s.cfg.connectClearsPending = false ∧ (CompareUnit.b = .b ∧ s.ocf.a = true ∧ s.ocie.a = true)) ∧
    (let s : State := { oneChannel with slot := ⟨none, some ⟨10, 1000, 2500, 0⟩⟩, ocf := .both true }
    connected .b s = false ∧ s.ocf.get .b = true ∧ ¬(CompareUnit.b = .b ∧ s.ocf.a = true ∧ s.ocie.a = true)) := by decide

theorem witness_ConnectionShowsInControlBytes : Reg.iflg ≠ .ctrlA ∧ Reg.iflg ≠ .imsk ∧
    inPulse.cfg.connectClearsPending = false ∧
    ({ inPulse with cfg := { connectClearsPending := true } } : State).cfg.connectClearsPending = true := by decide

theorem witness_RegisterReadsBackItsWrite : Reg.ctrlB ≠ .ctrlA := by decide

/-- The default map fits; a byte of a 16-bit register and an unused address are no register accesses. -/
theorem witness_MemoryAccessIsRegisterAccess : mapFits State.reset.cfg.regs = true ∧
    (∀ r : Reg, ¬(r.address State.reset.cfg.regs = 0x86 ∧ r.bytes = 1)) ∧
    (∀ r : Reg, ¬(r.address State.reset.cfg.regs = 0x00 ∧ r.bytes = 1)) := by
  refine ⟨by decide, ?_, ?_⟩ <;> intro r <;> cases r <;> decide

theorem witness_SixteenBitRegistersAreLittleEndian : mapFits State.reset.cfg.regs = true ∧ Reg.ocrB.bytes = 2 ∧
    Reg.cnt.bytes = 2 := by decide

/-- An address that no clause leaves out, and a next state for each command. -/
theorem witness_CommandsTouchOnlyTheirRegisters : (let m := oneChannel.cfg.regs
    0x84 ≠ m.top ∧ 0x84 ≠ m.top + 1 ∧ 0x84 ≠ m.ctrlA ∧ 0x84 ≠ m.ctrlB ∧ 0x84 ≠ m.status ∧ 0x84 ≠ m.pindir ∧
    0x84 ≠ m.imsk ∧ 0x84 ≠ m.iflg ∧ 0x8A ≠ (compareReg .a).address m ∧ 0x8A ≠ (compareReg .a).address m + 1 ∧
    0x8A ≠ m.status) ∧
    (∃ t, exec (.attach 10) oneChannel = .next t) ∧ (∃ t, exec (.writeAngle 9 90) oneChannel = .next t) ∧
    (∃ t, exec (.dispatch .a) oneChannel = .next t) := ⟨by decide, exec_next _ _, exec_next _ _, exec_next _ _⟩

theorem witness_DispatchWithoutChannelIsIgnored : oneChannel.slot.get .b = none := rfl

theorem witness_DispatchCountsOrDisconnects : (matchPending 49).slot.get .a = some ⟨9, 1000, 2500, 49⟩ ∧
    (matchPending 48).slot.get .a = some ⟨9, 1000, 2500, 48⟩ ∧ (49 : Byte).toNat ≤ 49 ∧ (48 : Byte).toNat ≤ 49 := by decide

theorem witness_FiftiethEventDisconnects : inPulse.slot.get .a = some ⟨9, 1000, 2500, 0⟩ ∧ connected .a inPulse = true ∧
    (49 ≤ 50 ∧ 49 < 50) ∧ 50 ≤ 50 := by decide

theorem witness_CommandsLeaveTheOtherUnit : oneChannel.cfg.pinA ≠ oneChannel.cfg.pinB ∧
    (∃ t, exec (.attach (pinOf oneChannel.cfg .b)) oneChannel = .next t) ∧
    (∃ t, exec (.attachMinmax (pinOf oneChannel.cfg .b) 0 1) oneChannel = .next t) ∧
    (∃ t, exec (.writeAngle (pinOf oneChannel.cfg .a) 90) oneChannel = .next t) ∧
    (∃ t, exec (.dispatch .a) oneChannel = .next t) :=
  ⟨by decide, exec_next _ _, exec_next _ _, exec_next _ _, exec_next _ _⟩

theorem witness_PeriodIsTopTicks : oneChannel.cnt = 0 ∧ 0 < oneChannel.top.toNat ∧
    19999 < oneChannel.top.toNat + oneChannel.cfg.topInclusive.toNat := by decide

/-- A match, a period start, a tick inside the pulse with the waveform before it, and a disconnected unit. -/
theorem witness_PinIsHighBelowCompareValue : inPulse.com.get .a = 0b10#2 ∧ inPulse.com.get .b = 0b00#2 ∧
    (let s : State := { inPulse with cnt := 1749 }
    (tick s).cnt = (tick s).ocrAct.get .a) ∧
    (let s : State := { inPulse with cnt := 19999 }
    (tick s).cnt = 0 ∧ (tick s).cnt ≠ (tick s).ocrAct.get .a) ∧
    (tick inPulse).cnt ≠ 0 ∧ WaveformAt .a inPulse := by
  refine ⟨rfl, rfl, by decide, by decide, by decide, ?_⟩
  unfold WaveformAt
  decide

/-- A connected channel whose width is the period itself, its pin raised. -/
def beyondPeriod : State := { inPulse with ocr := ⟨20000, 0⟩, ocrAct := ⟨65535, 0⟩ }

theorem beyondPeriod_is : BeyondPeriod .a beyondPeriod := ⟨by decide, by decide, by decide, by decide, rfl⟩

/-- With TOP_INCLUSIVE the first such width is one more. -/
theorem beyondPeriod_inclusive : BeyondPeriod .a
    { inPulse with cfg := { topInclusive := true }, cnt := 20000, ocr := ⟨20001, 0⟩, ocrAct := ⟨20001, 0⟩ } :=
  ⟨by decide, by decide, by decide, by decide, rfl⟩

/-- A period start that raises the pin, a second half that stores such a width, and a command of the HOST. -/
theorem witness_NoMatchBeyondPeriod : BeyondPeriod .a beyondPeriod ∧
    (let s := turnOf .timer { beyondPeriod with cnt := 19999, level := .both false }
    BeyondPeriod .a s ∧ nextTurn s ≠ .reset ∧ nextTurn s ≠ .host ∧ connected .a s = true ∧ s.cnt ≠ 0 ∧
    ∃ t, step s = .next t ∧ t.cnt = 0 ∧ t.level.a = true) ∧
    (let s := turnOf .host { beyondPeriod with inflight := some ⟨.a, 20000⟩ }
    BeyondPeriod .a s ∧ (∀ f, s.inflight = some f → f.unit = .a → periodTicks s ≤ f.width.toNat) ∧
    (s.cfg.injectDispatch = true → s.inflight = none → ∀ w rest, s.commands = w :: rest → decode w ≠ .ok (.dispatch .a)) ∧
    ∃ t, step s = .next t) ∧
    (let s := hostWith 0x1001000000000000 { beyondPeriod with cfg := { injectDispatch := true } }
    BeyondPeriod .a s ∧ (∀ f, s.inflight = some f → f.unit = .a → periodTicks s ≤ f.width.toNat) ∧
    (s.cfg.injectDispatch = true → s.inflight = none → ∀ w rest, s.commands = w :: rest → decode w ≠ .ok (.dispatch .a)) ∧
    ∃ t, step s = .next t) := by
  refine ⟨beyondPeriod_is, ⟨⟨by decide, by decide, by decide, by decide, rfl⟩, by decide, by decide, rfl, by decide,
    ⟨_, rfl, by decide, by decide⟩⟩, ⟨⟨by decide, by decide, by decide, by decide, rfl⟩, ?_, ?_, ⟨_, rfl⟩⟩,
    ⟨⟨by decide, by decide, by decide, by decide, rfl⟩, ?_, ?_, ⟨_, rfl⟩⟩⟩
  · intro f hf _
    cases hf
    decide
  · intro h
    cases h
  · intro f hf
    cases hf
  · intro _ _ w rest h
    cases h
    decide

theorem witness_TimerRunsUntilReset : (let s := hostWith 0x010A000000000000 oneChannel
    nextTurn s ≠ .reset ∧ nextTurn s ≠ .timer ∧ bothEmpty s = false ∧ State.reset.cs = 0b000#3) ∧
    ∃ t, step (hostWith 0x010A000000000000 oneChannel) = .next t := ⟨by decide, ⟨_, rfl⟩⟩

/-- A tick that moves a level, and an attach that moves a direction. -/
theorem witness_OnlyWaveformMovesLevel : (let s := turnOf .timer { inPulse with cnt := 1749 }
    nextTurn s ≠ .reset ∧ (after (step s)).level.get .a ≠ s.level.get .a) ∧
    (let s := hostWith 0x0109000000000000 .reset
    nextTurn s ≠ .reset ∧ (after (step s)).dir.get .a ≠ s.dir.get .a) := by decide

/-! ### The invariants hold of these states -/

theorem reset_inv : Inv State.reset where
  emptyUnit u _ := by cases u <;> exact ⟨rfl, rfl⟩
  enableIffCom u := by cases u <;> decide
  countRange u c h := by cases u <;> cases h
  configuredIff := by decide
  connectedOutput u h := by cases u <;> exact absurd h (by decide)
  flagSet _ := .inr rfl
  slotPin u c h := by cases u <;> cases h
  pinsDistinct := by decide
  comValues u := by cases u <;> exact .inl rfl
  unconfigured _ := ⟨rfl, rfl, rfl, rfl⟩
  countBelowTop h := absurd h (by decide)
  dirOutputIff u := by cases u <;> decide
  flight f h := by cases h

/-- Channel A registered and connected, with any events up to 49 counted, and its match pending or not. -/
theorem matchPending_inv (n : Byte) (hn : n.toNat ≤ 49) : Inv (matchPending n) where
  emptyUnit u h := by cases u <;> first | exact ⟨rfl, rfl⟩ | cases h
  enableIffCom u := by
    cases u
    · exact iff_of_true rfl rfl
    · change false = true ↔ 0b00#2 = 0b10#2
      decide
  countRange u c h := by cases u <;> cases h; exact hn
  configuredIff := iff_of_true rfl rfl
  connectedOutput u h := by
    cases u
    · rfl
    · change 0b00#2 = 0b10#2 at h
      exact absurd h (by decide)
  flagSet _ := .inl rfl
  slotPin u c h := by cases u <;> cases h; rfl
  pinsDistinct := reset_inv.pinsDistinct
  comValues u := by
    cases u
    · exact .inr rfl
    · exact .inl rfl
  unconfigured h := by cases h
  countBelowTop _ := by
    change 1750 < 20000 + 0
    decide
  dirOutputIff u := by cases u <;> simp [matchPending, inPulse, oneChannel]
  flight f h := by cases h

theorem witness_FlagBeforeFirstAttachIrrelevant : Inv State.reset ∧ bothEmpty State.reset = true ∧
    (let s := hostWith 0x0109000000000000 .reset
    bothEmpty s = true ∧ (∃ t, step s = .next t ∧ bothEmpty t = false) ∧ ∃ t, step { s with iflag := true } = .next t) :=
  ⟨reset_inv, rfl, rfl, ⟨_, rfl, rfl⟩, ⟨_, rfl⟩⟩

theorem witness_AttachLeavesUnitDisconnected : Inv State.reset ∧ (9 : Byte) = pinOf State.reset.cfg .a ∧
    (∃ t, exec (.attach 9) State.reset = .next t ∧ t.result = some .ok) ∧
    (∃ t, exec (.attachMinmax 9 0 65535) State.reset = .next t ∧ t.result = some .ok) :=
  ⟨reset_inv, rfl, ⟨_, rfl, rfl⟩, ⟨_, rfl, rfl⟩⟩

theorem witness_ResetSatisfiesInvariants : inPulse.cfg.pinA ≠ inPulse.cfg.pinB := by decide

/-- A turn and the commands to come do not count in the invariants. -/
theorem turnOf_inv {s : State} (t : Turn) (h : Inv s) : Inv (turnOf t s) :=
  ⟨⟨h.emptyUnit, h.enableIffCom, h.countRange, h.configuredIff, h.connectedOutput, h.flagSet, h.slotPin⟩,
    h.pinsDistinct, h.comValues, h.unconfigured, h.countBelowTop, h.dirOutputIff, h.flight⟩

theorem witness_StepKeepsInvariants : Inv (turnOf .interruptUnit (matchPending 49)) ∧
    ∃ t, step (turnOf .interruptUnit (matchPending 49)) = .next t :=
  ⟨turnOf_inv _ (matchPending_inv 49 (by decide)), ⟨_, rfl⟩⟩

/-- One step from reset: the first attach. -/
theorem attached_reachable : Reachable (after (step (hostWith 0x0109000000000000 .reset))) :=
  .step _ _ (.start (hostWith 0x0109000000000000 .reset) (by decide)) rfl

theorem witness_ReachableStatesSatisfyInvariants : ∃ s, Reachable s ∧ s.slot.get .a ≠ none :=
  ⟨_, attached_reachable, by decide⟩

theorem witness_SomeAgentIsEnabled : ∃ s, Reachable s ∧ bothEmpty s = false := ⟨_, attached_reachable, rfl⟩

/-- A pin in its pulse, and the tick that ends the pulse. -/
theorem witness_PinHighOnlyInPulseIsKept :
    (let s := turnOf .timer { matchPending 3 with ocf := .both false, cnt := 1749, level := ⟨true, false⟩ }
    Inv s ∧ s.cfg.strictLatency = true ∧ s.cfg.injectDispatch = false ∧ PinHighOnlyInPulse s ∧ s.level.get .a = true ∧
    ∃ t, step s = .next t) := by
  have h := matchPending_inv 3 (by decide)
  refine ⟨⟨⟨h.emptyUnit, h.enableIffCom, h.countRange, h.configuredIff, h.connectedOutput, h.flagSet, h.slotPin⟩,
    h.pinsDistinct, h.comValues, (fun h => by cases h), (fun _ => by decide), h.dirOutputIff,
    h.flight⟩, rfl, rfl, ?_, rfl, ⟨_, rfl⟩⟩
  intro u hu
  cases u
  · exact ⟨rfl, rfl⟩
  · cases hu

theorem witness_AutoDisconnectLeavesPinLow : (let s := turnOf .interruptUnit (matchPending 49)
    Inv s ∧ PinHighOnlyInPulse s ∧ nextTurn s = .interruptUnit ∧ connected .a s = true ∧
    ∃ t, step s = .next t ∧ connected .a t = false) := by
  refine ⟨turnOf_inv _ (matchPending_inv 49 (by decide)), ?_, rfl, rfl, ⟨_, rfl, rfl⟩⟩
  intro u hu
  cases u <;> cases hu

/-- A unit in each of the three states, its fiftieth event delivered or injected. -/
theorem witness_ChannelStateTransitions : (let s := turnOf .interruptUnit (matchPending 49)
    Inv s ∧ nextTurn s ≠ .reset ∧ (∃ t, step s = .next t) ∧ channelState .a s = .connected ∧
    channelState .b s = .empty) ∧
    (∃ s, Reachable s ∧ channelState .a s = .disconnected) ∧
    (let s := hostWith 0x1000000000000000 { matchPending 49 with cfg := { injectDispatch := true } }
    Inv s ∧ nextTurn s ≠ .reset ∧ channelState .a s = .connected ∧
    ∃ t, step s = .next t ∧ channelState .a t = .disconnected) := by
  have h := matchPending_inv 49 (by decide)
  exact ⟨⟨turnOf_inv _ h, by decide, ⟨_, rfl⟩, rfl, rfl⟩, ⟨_, attached_reachable, rfl⟩,
    ⟨⟨⟨h.emptyUnit, h.enableIffCom, h.countRange, h.configuredIff, h.connectedOutput, h.flagSet, h.slotPin⟩,
      h.pinsDistinct, h.comValues, h.unconfigured, h.countBelowTop, h.dirOutputIff, h.flight⟩, by decide, rfl,
      ⟨_, rfl, rfl⟩⟩⟩

/-! ### A fair run -/

/-- The three agents in turn. -/
def roundRobin (n : Nat) : Turn :=
  match n % 3 with
  | 0 => .host
  | 1 => .timer
  | _ => .interruptUnit

/-- The run of that schedule from a WRITE_ANGLE in flight. -/
def fairRun : Nat → State
  | 0 => writing
  | n + 1 => after (turnStep (roundRobin n) (takeTurn (fairRun n)))

/-- Every agent's step answers a next state. -/
theorem turnStep_next (turn : Turn) (s : State) : ∃ t, turnStep turn s = .next t := by
  cases turn with
  | host =>
    obtain ⟨_, _, h⟩ | ⟨_, _, h⟩ | ⟨_, _, _, _, h⟩ | ⟨_, _, i, _, _, _, _, h⟩ := hostStep_cases s <;>
      simp only [turnStep, h]
    · exact ⟨_, rfl⟩
    · exact ⟨_, rfl⟩
    · exact ⟨_, rfl⟩
    · exact exec_next _ _
  | timer => exact ⟨_, rfl⟩
  | interruptUnit =>
    obtain ⟨_, h⟩ | ⟨_, _, _, h⟩ := interruptStep_cases s <;> simp only [turnStep, h] <;> exact ⟨_, rfl⟩
  | reset => exact ⟨_, rfl⟩

theorem roundRobin_taken (k : Nat) (t : Turn) (h : roundRobin k = t) (n : Nat) : ∃ m, n ≤ m ∧ roundRobin m = t := by
  refine ⟨3 * n + k, by omega, ?_⟩
  rw [← h]
  simp [roundRobin]

theorem witness_FairRunsCompleteTheWriteInFlight :
    ScheduledRun roundRobin fairRun ∧ WeaklyFair roundRobin fairRun ∧ (fairRun 0).inflight = some ⟨.a, 1375⟩ := by
  refine ⟨?_, ⟨?_, ?_, ?_⟩, rfl⟩
  · intro n
    obtain ⟨u, h⟩ := turnStep_next (roundRobin n) (takeTurn (fairRun n))
    rw [fairRun, h]
    rfl
  · exact fun n _ => roundRobin_taken 1 .timer rfl n
  · exact fun n _ => roundRobin_taken 2 .interruptUnit rfl n
  · exact fun n _ => roundRobin_taken 0 .host rfl n

/-! ### Observation points -/

/-- An attach and a WRITE_ANGLE to issue, right after reset. -/
def twoCommands : State := { State.reset with commands := [0x0109000000000000, 0x0309005A00000000] }

/-- The step of an agent. -/
def taken (t : Turn) (s : State) : State := after (turnStep t (takeTurn s))

/-- The attach issued, then one TICK step. -/
theorem attached_ticked : RunSinceReset twoCommands [0x0109000000000000] 1 (taken .timer (taken .host twoCommands)) :=
  .step .timer [0x0109000000000000] 0 (taken .host twoCommands) _
    (.step .host [] 0 twoCommands _ .reset (by decide) rfl) (by decide) rfl

/-- Both commands issued, the WRITE_ANGLE in flight. -/
theorem write_in_flight : RunSinceReset twoCommands [0x0109000000000000, 0x0309005A00000000] 0
    (taken .host (taken .host twoCommands)) :=
  .step .host [0x0109000000000000] 0 (taken .host twoCommands) _
    (.step .host [] 0 twoCommands _ .reset (by decide) rfl) (by decide) rfl

/-- A point; a run that is at none yet, its WRITE_ANGLE in flight; and a run with no command. -/
theorem witness_ObservationPointsAreSettled : twoCommands.cfg.pinA ≠ twoCommands.cfg.pinB ∧
    (let s := taken .timer (taken .host twoCommands)
    ObservationPoint twoCommands [0x0109000000000000] 1 s ∧ bothEmpty s = false ∧ s.cnt = 1) ∧
    (let s := taken .host (taken .host twoCommands)
    RunSinceReset twoCommands [0x0109000000000000, 0x0309005A00000000] 0 s ∧ settled s = false) ∧
    RunSinceReset State.reset [] 0 (externalReset State.reset) :=
  ⟨by decide, ⟨⟨attached_ticked, by decide⟩, by decide, by decide⟩, ⟨write_in_flight, by decide⟩, .reset⟩

/-- Each clause at the first value out of its range, and a command in range. -/
theorem witness_AssemblerChecksOperands : 256 > 255 ∧ 255 ≤ 255 ∧ 65536 > 65535 ∧ 65535 ≤ 65535 ∧
    ((-32769 : Int) < -32768 ∨ (-32769 : Int) > 32767) ∧ ((32768 : Int) < -32768 ∨ (32768 : Int) > 32767) ∧
    ['C'] ≠ ['A'] ∧ ['C'] ≠ ['B'] ∧ (Instr.attach 9).WellFormed := by decide

end Sys2Proof.Tests
end

/-! Proofs of the statements on the HOST's step (rules R15, R21, R80, R87) and on the invariants at reset (rules R51, R52). -/

namespace Sys2Proof.Machine

/-! ### The HOST's next command -/

/-- DISPATCH is the only command whose issue depends on a parameter (rule R87). -/
theorem hostMayIssue_of_dispatch_injected {c : Config} {i : Instr}
    (h : ∀ u, i = .dispatch u → c.injectDispatch = true) : hostMayIssue c i = true := by
  cases i with
  | attach _ => rfl
  | attachMinmax _ _ _ => rfl
  | writeAngle _ _ => rfl
  | dispatch u => exact h u rfl

theorem issue_of_decode_ok {w : CommandWord} {i : Instr} {s : State} (decoded : decode w = .ok i)
    (allowed : hostMayIssue s.cfg i = true) : issue w s = exec i s := by
  simp only [issue, decoded, allowed, cond_true]

/-- With nothing in flight the HOST issues its next word (rules R21, R50 (c)). -/
theorem hostStep_of_commands_cons {s : State} {w : CommandWord} {rest : List CommandWord}
    (idle : s.inflight = none) (next : s.commands = w :: rest) :
    hostStep s = issue w { s with commands := rest } := by
  simp only [hostStep, idle, next]

/-- The step that issues the HOST's next word, legal or not. -/
theorem step_of_host_issues {s : State} {w : CommandWord} {rest : List CommandWord} (turn : nextTurn s = .host)
    (idle : s.inflight = none) (next : s.commands = w :: rest) :
    step s = issue w { takeTurn s with commands := rest } := by
  rw [step_of_turn turn]
  exact hostStep_of_commands_cons (s := takeTurn s) idle next

/-- Settles O6: the HOST's step issues its next word, and a word that decodes to a command it may issue runs that command. -/
theorem hostStepRunsDecodedCommand : Obligations.HostStepRunsDecodedCommand := by
  intro s w rest i turn idle next decoded injected
  rw [step_of_host_issues turn idle next]
  exact issue_of_decode_ok decoded (hostMayIssue_of_dispatch_injected injected)

/-! ### The invariants after reset -/

theorem bothEmpty_externalReset (s : State) : bothEmpty (externalReset s) = true := rfl

theorem configured_externalReset (s : State) : configured (externalReset s) = false := rfl

/-- Of what the invariants speak of, a reset keeps the parameters alone (rules R51, R170). -/
theorem externalReset_inv {s : State} (pins : s.cfg.pinA ≠ s.cfg.pinB) : Inv (externalReset s) where
  emptyUnit u _ := by simp
  enableIffCom u := by simp
  countRange u c filled := by simp at filled
  configuredIff := by simp [bothEmpty_externalReset, configured_externalReset]
  connectedOutput u conn := by simp at conn
  flagSet _ := .inr (bothEmpty_externalReset s)
  slotPin u c filled := by simp at filled
  pinsDistinct := pins
  comValues u := by simp
  unconfigured _ := ⟨rfl, rfl, rfl, rfl⟩
  countBelowTop conf := by simp [configured_externalReset] at conf
  dirOutputIff u := by simp
  flight f writing := by simp at writing

/-- Settles O50: the reset state is the external reset of itself, with the default pins 9 and 10. -/
theorem resetSatisfiesInvariants : Obligations.ResetSatisfiesInvariants :=
  ⟨externalReset_inv (s := State.reset) (by decide), fun _ => externalReset_inv⟩

end Sys2Proof.Machine

/-! What one step does to the block and what causes it, said once; the statements on what steps keep (rules R26, R28, R31,
R35, R40, R52) split on it. -/

namespace Sys2Proof.Machine

/-! ### The effects of a step -/

/-- The HOST's step in `s` runs the command `i` (rules R21, R87). -/
structure Issues (i : Instr) (s : State) : Prop where
  turn : nextTurn s = .host
  idle : s.inflight = none
  word : ∃ w rest, s.commands = w :: rest ∧ decode w = .ok i
  allowed : hostMayIssue s.cfg i = true

/-- `i` is an attach of `pin` with these bounds, in either form (rules R101, R102). -/
def AttachForm (pin : Byte) (minPW maxPW : Half) (i : Instr) : Prop :=
  i = .attachMinmax pin minPW maxPW ∨
    (i = .attach pin ∧ minPW = Config.defaultMinPW ∧ maxPW = Config.defaultMaxPW)

/-- The step in `s` handles an event of `u`, delivered or injected (rules R87, R153). -/
def EventOf (u : CompareUnit) (s : State) : Prop :=
  (nextTurn s = .interruptUnit ∧ deliverEnabled s = true ∧ deliverUnit s = u) ∨ Issues (.dispatch u) s

/-- `OCF` after an event of `u`: a delivery clears the unit's flag, an injection leaves it (rules R87, R153). -/
def ocfAfterEvent (u : CompareUnit) (s : State) : PerUnit Bool :=
  bif nextTurn s == .interruptUnit then s.ocf.set u false else s.ocf

/-- The state after a step from `s`, by what the step does and what causes it. -/
inductive StepEffect (s : State) : State → Prop where
  /-- Nothing of the block changes. -/
  | idle (rest : List CommandWord) (r : Option ResultCode) :
      StepEffect s { takeTurn s with commands := rest, result := r }
  | reset (turn : nextTurn s = .reset) : StepEffect s (externalReset (takeTurn s))
  | ticked (turn : nextTurn s = .timer) (enabled : tickEnabled s = true) : StepEffect s (tick (takeTurn s))
  /-- The second half of a WRITE_ANGLE. -/
  | finished (f : Inflight) (turn : nextTurn s = .host) (writing : s.inflight = some f) :
      StepEffect s (finishWrite f (takeTurn s))
  /-- The first half of a WRITE_ANGLE. -/
  | begun (u : CompareUnit) (c : Channel) (angle : Int) (rest : List CommandWord)
      (issued : Issues (.writeAngle (pinOf s.cfg u) angle) s) (filled : s.slot.get u = some c) :
      StepEffect s (beginWrite u (widthOf c angle) { takeTurn s with commands := rest })
  /-- The first successful attach since reset. -/
  | claimedFirst (u : CompareUnit) (minPW maxPW : Half) (i : Instr) (rest : List CommandWord) (issued : Issues i s)
      (form : AttachForm (pinOf s.cfg u) minPW maxPW i) (empty : s.slot.get u = none) (first : bothEmpty s = true) :
      StepEffect s (reply .ok (setDir u .output (setSlot u (newChannel (pinOf s.cfg u) minPW maxPW)
        (configureTimer { takeTurn s with commands := rest }))))
  /-- A later successful attach. -/
  | claimed (u : CompareUnit) (minPW maxPW : Half) (i : Instr) (rest : List CommandWord) (issued : Issues i s)
      (form : AttachForm (pinOf s.cfg u) minPW maxPW i) (empty : s.slot.get u = none) (later : bothEmpty s = false) :
      StepEffect s (reply .ok (setDir u .output (setSlot u (newChannel (pinOf s.cfg u) minPW maxPW)
        { takeTurn s with commands := rest })))
  /-- A delivered event of a unit with no channel. -/
  | dropped (u : CompareUnit) (turn : nextTurn s = .interruptUnit) (enabled : deliverEnabled s = true)
      (unit : deliverUnit s = u) (empty : s.slot.get u = none) :
      StepEffect s { takeTurn s with ocf := s.ocf.set u false }
  /-- An event that is counted. -/
  | counted (u : CompareUnit) (c : Channel) (rest : List CommandWord) (r : Option ResultCode) (event : EventOf u s)
      (filled : s.slot.get u = some c) (below : c.pulseCount.toNat + 1 ≠ Config.pulseRate) :
      StepEffect s { takeTurn s with
        slot := s.slot.set u (some { c with pulseCount := c.pulseCount + 1 })
        ocf := ocfAfterEvent u s
        commands := rest
        result := r }
  /-- The event that disconnects. -/
  | disconnected (u : CompareUnit) (c : Channel) (rest : List CommandWord) (r : Option ResultCode) (event : EventOf u s)
      (filled : s.slot.get u = some c) (last : c.pulseCount.toNat + 1 = Config.pulseRate) :
      StepEffect s { takeTurn s with
        slot := s.slot.set u (some { c with pulseCount := 0 })
        com := s.com.set u Config.comDisconnected
        ocie := s.ocie.set u false
        ocf := ocfAfterEvent u s
        commands := rest
        result := r }

/-- The effect of an attach that the HOST issues. -/
theorem stepEffect_of_attach {s : State} {pin : Byte} {minPW maxPW : Half} {i : Instr} {rest : List CommandWord}
    (issued : Issues i s) (form : AttachForm pin minPW maxPW i) :
    StepEffect s (attachChannel pin minPW maxPW { takeTurn s with commands := rest }) := by
  obtain ⟨_, e⟩ | ⟨_, _, _, _, e⟩ | ⟨u, known, empty, first, e⟩ | ⟨u, known, empty, later, e⟩ :=
    attachChannel_cases pin minPW maxPW { takeTurn s with commands := rest } <;> rw [e]
  · exact .idle rest _
  · exact .idle rest _
  · obtain rfl := pinOf_of_unitOf known
    exact .claimedFirst u minPW maxPW i rest issued form empty first
  · obtain rfl := pinOf_of_unitOf known
    exact .claimed u minPW maxPW i rest issued form empty later

/-- The effect of a WRITE_ANGLE's first half. -/
theorem stepEffect_of_writeAngle {s t : State} {pin : Byte} {angle : Int} {rest : List CommandWord}
    (issued : Issues (.writeAngle pin angle) s)
    (h : exec (.writeAngle pin angle) { takeTurn s with commands := rest } = .next t) : StepEffect s t := by
  obtain ⟨_, e⟩ | ⟨_, _, _, e⟩ | ⟨u, c, known, filled, e⟩ :=
    exec_writeAngle_cases pin angle { takeTurn s with commands := rest } <;>
    obtain rfl := Host.Outcome.next.inj (e.symm.trans h)
  · exact .idle rest _
  · exact .idle rest _
  · obtain rfl := pinOf_of_unitOf known
    exact .begun u c angle rest issued filled

theorem ocfAfterEvent_injected {s : State} (u : CompareUnit) (turn : nextTurn s = .host) : ocfAfterEvent u s = s.ocf := by
  rw [ocfAfterEvent, turn]
  rfl

theorem ocfAfterEvent_delivered {s : State} (u : CompareUnit) (turn : nextTurn s = .interruptUnit) :
    ocfAfterEvent u s = s.ocf.set u false := by
  rw [ocfAfterEvent, turn]
  rfl

/-- The effect of an injected DISPATCH. -/
theorem stepEffect_of_injection {s t : State} {u : CompareUnit} {rest : List CommandWord}
    (issued : Issues (.dispatch u) s)
    (h : exec (.dispatch u) { takeTurn s with commands := rest } = .next t) : StepEffect s t := by
  have flags := ocfAfterEvent_injected u issued.turn
  obtain ⟨_, e⟩ | ⟨c, (filled : s.slot.get u = some c), below, e⟩ |
    ⟨c, (filled : s.slot.get u = some c), last, e⟩ :=
    exec_dispatch_cases u { takeTurn s with commands := rest } <;>
    obtain rfl := Host.Outcome.next.inj (e.symm.trans h)
  · exact .idle rest _
  · convert StepEffect.counted u c rest (some .ok) (.inr issued) filled below using 1
    ext1 <;> simp [flags, filled]
  · convert StepEffect.disconnected u c rest (some .ok) (.inr issued) filled last using 1
    ext1 <;> simp [flags, filled]

/-- The effect of a delivery. -/
theorem stepEffect_of_delivery {s t : State} {u : CompareUnit} (turn : nextTurn s = .interruptUnit)
    (enabled : deliverEnabled s = true) (unit : deliverUnit s = u)
    (h : exec (.dispatch u) (takeInterrupt u (takeTurn s)) = .next t) :
    StepEffect s (returnFromInterrupt (setResult s.result t)) := by
  have flags := ocfAfterEvent_delivered u turn
  have unmasked : s.iflag = true := (Bool.and_eq_true_iff.mp enabled).1
  obtain ⟨empty, e⟩ | ⟨c, (filled : s.slot.get u = some c), below, e⟩ |
    ⟨c, (filled : s.slot.get u = some c), last, e⟩ :=
    exec_dispatch_cases u (takeInterrupt u (takeTurn s)) <;>
    obtain rfl := Host.Outcome.next.inj (e.symm.trans h)
  · convert StepEffect.dropped u turn enabled unit empty using 1
    ext1 <;> simp [unmasked]
  · convert StepEffect.counted u c s.commands s.result (.inl ⟨turn, enabled, unit⟩) filled below using 1
    ext1 <;> simp [flags, unmasked, filled]
  · convert StepEffect.disconnected u c s.commands s.result (.inl ⟨turn, enabled, unit⟩) filled last using 1
    ext1 <;> simp [flags, unmasked, filled]

/-- The effect of a command that the HOST issues. -/
theorem stepEffect_of_issue {s t : State} {i : Instr} {rest : List CommandWord} (issued : Issues i s)
    (h : exec i { takeTurn s with commands := rest } = .next t) : StepEffect s t := by
  cases i with
  | attach pin => exact Host.Outcome.next.inj h ▸ stepEffect_of_attach issued (.inr ⟨rfl, rfl, rfl⟩)
  | attachMinmax pin minPW maxPW => exact Host.Outcome.next.inj h ▸ stepEffect_of_attach issued (.inl rfl)
  | writeAngle pin angle => exact stepEffect_of_writeAngle issued h
  | dispatch u => exact stepEffect_of_injection issued h

/-- Every step has one of the listed effects. -/
theorem stepEffect_of_step {s t : State} (h : step s = .next t) : StepEffect s t := by
  obtain ⟨turn, h⟩ | ⟨turn, rfl⟩ | ⟨turn, h⟩ | ⟨turn, rfl⟩ := step_cases h
  · obtain ⟨f, writing, e⟩ | ⟨_, _, e⟩ | ⟨_, rest, _, _, e⟩ | ⟨w, rest, i, idle, next, decoded, allowed, e⟩ :=
      hostStep_cases (takeTurn s) <;> rw [e] at h
    · exact Host.Outcome.next.inj h ▸ .finished f turn writing
    · exact Host.Outcome.next.inj h ▸ .idle s.commands s.result
    · exact Host.Outcome.next.inj h ▸ .idle rest (some .illegal)
    · exact stepEffect_of_issue ⟨turn, idle, ⟨w, rest, next, decoded⟩, allowed⟩ h
  · cases enabled : tickEnabled (takeTurn s) <;> simp only [timerStep, enabled, cond_true, cond_false]
    · exact .idle s.commands s.result
    · exact .ticked turn enabled
  · obtain ⟨_, e⟩ | ⟨_, enabled, handled, e⟩ := interruptStep_cases (takeTurn s) <;>
    obtain rfl := Host.Outcome.next.inj (e.symm.trans h)
    · exact .idle s.commands s.result
    · exact stepEffect_of_delivery turn enabled rfl handled
  · exact .reset turn

/-! ### Slots -/

/-- A write into a filled slot leaves which slots are empty. -/
theorem slot_set_some_eq_none_iff {p : PerUnit (Option Channel)} {u : CompareUnit} {c : Channel} (d : Channel)
    (filled : p.get u = some c) (v : CompareUnit) : (p.set u (some d)).get v = none ↔ p.get v = none := by
  rw [PerUnit.get_set]
  split
  · next h => simp [h, filled]
  · rfl

/-! ### The invariants, operation by operation (rule R52) -/

theorem takeTurn_inv {s : State} (h : Inv s) : Inv (takeTurn s) :=
  h.of_same rfl rfl rfl rfl rfl rfl rfl rfl rfl rfl rfl

/-- A running timer is configured. -/
theorem Inv.configured_of_running {s : State} (h : Inv s) (running : s.cs = Config.csDivideBy8) : configured s = true := by
  rw [← h.configuredIff]
  by_contra empty
  obtain ⟨_, stopped, _, _⟩ := h.unconfigured (by simpa using empty)
  rw [stopped] at running
  exact absurd running (by decide)

theorem tickEnabled_running {s : State} (enabled : tickEnabled s = true) : s.cs = Config.csDivideBy8 := by
  simp only [tickEnabled, Bool.and_eq_true, beq_iff_eq] at enabled
  exact enabled.1.1

/-- The counter of a configured timer stays within the period: the tick that does not wrap is not at the last count
(rules R32, R150). -/
theorem nextCount_in_period {s : State} (conf : configured s = true)
    (inPeriod : s.cnt.toNat < s.top.toNat + s.cfg.topInclusive.toNat) :
    (nextCount s).toNat < s.top.toNat + s.cfg.topInclusive.toNat := by
  obtain ⟨_, _, top⟩ := (configured_iff s).mp conf
  have top' : s.top.toNat = 20000 := congrArg BitVec.toNat top
  unfold nextCount
  cases w : wraps s with
  | true => simp [top']
  | false =>
    have notLast : s.cnt.toNat + 1 ≠ s.top.toNat + s.cfg.topInclusive.toNat := by
      cases incl : s.cfg.topInclusive <;> simpa [wraps, incl, ← BitVec.toNat_inj] using w
    have bit := Bool.toNat_le s.cfg.topInclusive
    rw [cond_false, BitVec.toNat_add_of_lt (by simp; omega)]
    change s.cnt.toNat + 1 < _
    omega

/-- A count within the period, once the timer is configured. -/
theorem setCnt_inv {s : State} {n : Half} (h : Inv s) (conf : configured s = true)
    (inPeriod : n.toNat < s.top.toNat + s.cfg.topInclusive.toNat) : Inv (setCnt n s) := {
  h with
  unconfigured := fun empty => nomatch (h.configuredIff.mpr conf).symm.trans empty
  countBelowTop := fun _ => inPeriod }

/-- Of what the invariants speak of, a tick moves the counter alone. -/
theorem tick_inv {s : State} (h : Inv s) (enabled : tickEnabled s = true) : Inv (tick s) := by
  have conf := h.configured_of_running (tickEnabled_running enabled)
  have counted := setCnt_inv h conf (nextCount_in_period conf (h.countBelowTop conf))
  exact counted.of_same (tick_slot s) (tick_cnt s) (tick_top s) (tick_wgm s) (tick_cs s) (tick_com s) (tick_ocie s)
    (tick_iflag s) (tick_dir s) (tick_inflight s) (tick_cfg s)

/-- The second half of a WRITE_ANGLE sets `I` and leaves nothing in flight. -/
theorem finishWrite_inv {s : State} (f : Inflight) (h : Inv s) : Inv (finishWrite f s) := by
  have ended : Inv { s with iflag := true, inflight := none } := {
    h with
    flagSet := fun _ => .inl rfl
    flight := fun _ writing => nomatch writing }
  exact ended.of_same (finishWrite_slot f s) (finishWrite_cnt f s) (finishWrite_top f s) (finishWrite_wgm f s)
    (finishWrite_cs f s) (finishWrite_com f s) (finishWrite_ocie f s) (finishWrite_iflag f s) (finishWrite_dir f s)
    (finishWrite_inflight f s) (finishWrite_cfg f s)

/-- A count within its range, written to a filled slot. -/
theorem setCount_inv {s : State} {u : CompareUnit} {c : Channel} {n : Byte} (h : Inv s)
    (filled : s.slot.get u = some c) (range : n.toNat ≤ 49) :
    Inv { s with slot := s.slot.set u (some { c with pulseCount := n }) } := by
  have same := slot_set_some_eq_none_iff (p := s.slot) { c with pulseCount := n } filled
  have empty_eq : bothEmpty { s with slot := s.slot.set u (some { c with pulseCount := n }) } = bothEmpty s :=
    bothEmpty_congr same
  exact { h with
    emptyUnit := fun v empty => h.emptyUnit v ((same v).mp empty)
    countRange := fun v d hd => by
      simp only [PerUnit.get_set] at hd
      split at hd
      · injection hd with hd; subst hd; exact range
      · exact h.countRange v d hd
    configuredIff := by rw [empty_eq]; exact h.configuredIff
    flagSet := by rw [empty_eq]; exact h.flagSet
    slotPin := fun v d hd => by
      simp only [PerUnit.get_set] at hd
      split at hd
      · next hv => injection hd with hd; subst hd hv; exact h.slotPin v c filled
      · exact h.slotPin v d hd
    unconfigured := by rw [empty_eq]; exact h.unconfigured
    dirOutputIff := fun v => (h.dirOutputIff v).trans (not_congr (same v).symm) }

/-- DISCONNECT, with no WRITE_ANGLE in flight. -/
theorem disconnect_inv {s : State} {u : CompareUnit} (h : Inv s) (idle : s.inflight = none) : Inv (disconnect u s) := {
  h with
  emptyUnit := fun v empty => by
    obtain rfl | other := eq_or_ne v u
    · simp [Config.comDisconnected]
    · simpa [PerUnit.get_set_ne _ _ other] using h.emptyUnit v empty
  enableIffCom := fun v => by
    obtain rfl | other := eq_or_ne v u
    · simp [Config.comDisconnected]
    · simpa [PerUnit.get_set_ne _ _ other] using h.enableIffCom v
  connectedOutput := fun v conn => h.connectedOutput v (by
    simp only [disconnect_com, PerUnit.get_set] at conn
    split at conn
    · exact absurd conn (by decide)
    · exact conn)
  comValues := fun v => by
    obtain rfl | other := eq_or_ne v u
    · simp [Config.comDisconnected]
    · simpa [PerUnit.get_set_ne _ _ other] using h.comValues v
  flight := fun f writing => nomatch idle.symm.trans writing }

/-- The fields that the first half of a WRITE_ANGLE gives a filled unit. -/
theorem connectForWrite_inv {s : State} {u : CompareUnit} {c : Channel} (w : Half) (h : Inv s)
    (filled : s.slot.get u = some c) :
    Inv { s with
      com := s.com.set u Config.comConnected
      ocie := s.ocie.set u true
      iflag := false
      inflight := some ⟨u, w⟩ } := {
  h with
  emptyUnit := fun v empty => by
    have other : v ≠ u := by rintro rfl; exact nomatch filled.symm.trans empty
    simpa only [PerUnit.get_set_ne _ _ other] using h.emptyUnit v empty
  enableIffCom := fun v => by
    obtain rfl | other := eq_or_ne v u
    · simp [Config.comConnected]
    · simpa [PerUnit.get_set_ne _ _ other] using h.enableIffCom v
  connectedOutput := fun v conn => by
    simp only [PerUnit.get_set] at conn
    split at conn
    · next hv => exact (h.dirOutputIff v).mpr (by simp [hv, filled])
    · exact h.connectedOutput v conn
  flagSet := fun idle => nomatch idle
  comValues := fun v => by
    obtain rfl | other := eq_or_ne v u
    · simp [Config.comConnected]
    · simpa [PerUnit.get_set_ne _ _ other] using h.comValues v
  flight := fun f writing => by
    obtain rfl : ⟨u, w⟩ = f := Option.some.inj writing
    exact ⟨rfl, by simp [connected]⟩ }

theorem beginWrite_inv {s : State} {u : CompareUnit} {c : Channel} (w : Half) (h : Inv s)
    (filled : s.slot.get u = some c) : Inv (beginWrite u w s) := by
  have conn := connectForWrite_inv w h filled
  cases k : s.cfg.writeResetsWindow
  · exact conn.of_same (by simp [beginWrite_slot, k]) (by simp) (by simp) (by simp) (by simp) (beginWrite_com u w s)
      (beginWrite_ocie u w s) (by simp) (by simp) (by simp) (by simp)
  · have restarted := setCount_inv (n := 0) conn filled (by decide)
    exact restarted.of_same (by simp [beginWrite_slot, k, filled]) (by simp) (by simp) (by simp) (by simp)
      (beginWrite_com u w s) (beginWrite_ocie u w s) (by simp) (by simp) (by simp) (by simp)

/-- A successful attach, with the timer configured by then and interrupts enabled. -/
theorem claim_inv {s : State} {u : CompareUnit} {pin : Byte} {top : Half} {wgm : BitVec 4} {cs : BitVec 3} {flag : Bool}
    (minPW maxPW : Half) (r : Option ResultCode) (h : Inv s) (known : pin = pinOf s.cfg u)
    (idle : s.inflight = none)
    (timer : wgm = Config.wgmFastPwm ∧ cs = Config.csDivideBy8 ∧ top = Config.topValue) (enabled : flag = true)
    (inPeriod : s.cnt.toNat < top.toNat + s.cfg.topInclusive.toNat) :
    Inv { s with
      slot := s.slot.set u (some (newChannel pin minPW maxPW))
      dir := s.dir.set u .output
      top := top
      wgm := wgm
      cs := cs
      iflag := flag
      result := r } := {
  h with
  emptyUnit := fun v hv => h.emptyUnit v (by
    simp only [PerUnit.get_set] at hv
    split at hv
    · exact nomatch hv
    · exact hv)
  countRange := fun v d hd => by
    simp only [PerUnit.get_set] at hd
    split at hd
    · injection hd with hd; subst hd; exact Nat.zero_le _
    · exact h.countRange v d hd
  configuredIff := iff_of_true (bothEmpty_of_filled (PerUnit.get_set_self s.slot u _)) ((configured_iff _).mpr timer)
  connectedOutput := fun v conn => by
    simp only [PerUnit.get_set]
    split
    · rfl
    · exact h.connectedOutput v conn
  flagSet := fun _ => .inl enabled
  slotPin := fun v d hd => by
    simp only [PerUnit.get_set] at hd
    split at hd
    · next hv => injection hd with hd; subst hd hv; exact known
    · exact h.slotPin v d hd
  unconfigured := fun no => nomatch (bothEmpty_of_filled (PerUnit.get_set_self s.slot u _)).symm.trans no
  countBelowTop := fun _ => inPeriod
  dirOutputIff := fun v => by
    simp only [PerUnit.get_set]
    split
    · simp
    · exact h.dirOutputIff v
  flight := fun f writing => nomatch idle.symm.trans writing }

/-- The first attach since reset configures a timer that stands at 0. -/
theorem claimFirst_inv {s : State} {u : CompareUnit} {pin : Byte} (minPW maxPW : Half) (h : Inv s)
    (known : pin = pinOf s.cfg u) (first : bothEmpty s = true) (idle : s.inflight = none) :
    Inv (reply .ok (setDir u .output (setSlot u (newChannel pin minPW maxPW) (configureTimer s)))) := by
  obtain ⟨_, _, _, stopped⟩ := h.unconfigured first
  exact claim_inv (s := s) minPW maxPW (some .ok) h known idle ⟨rfl, rfl, rfl⟩ rfl (by simp [stopped, Config.topValue])

/-- A later attach finds the timer configured. -/
theorem claimLater_inv {s : State} {u : CompareUnit} {pin : Byte} (minPW maxPW : Half) (h : Inv s)
    (known : pin = pinOf s.cfg u) (later : bothEmpty s = false) (idle : s.inflight = none) :
    Inv (reply .ok (setDir u .output (setSlot u (newChannel pin minPW maxPW) s))) := by
  have conf := h.configuredIff.mp later
  have enabled : s.iflag = true := (h.flagSet idle).resolve_right (by simp [later])
  exact claim_inv (s := s) minPW maxPW (some .ok) h known idle ((configured_iff s).mp conf) enabled (h.countBelowTop conf)

/-! ### Every step keeps the invariants -/

/-- No event is handled while a WRITE_ANGLE is in flight (rule R50 (c)). -/
theorem Inv.idle_of_event {s : State} {u : CompareUnit} (h : Inv s) (event : EventOf u s) : s.inflight = none := by
  obtain ⟨_, enabled, _⟩ | issued := event
  · have unmasked : s.iflag = true := (Bool.and_eq_true_iff.mp enabled).1
    exact Option.eq_none_iff_forall_ne_some.mpr fun f writing => by simp [(h.flight f writing).1] at unmasked
  · exact issued.idle

/-- The invariants do not see what the HOST has still to issue, the turns or the result. -/
theorem Inv.nextCommands {s : State} (h : Inv s) (rest : List CommandWord) : Inv { takeTurn s with commands := rest } :=
  h.of_same rfl rfl rfl rfl rfl rfl rfl rfl rfl rfl rfl

/-- Every effect keeps the invariants, by the operations it is made of. -/
theorem StepEffect.inv {s t : State} (e : StepEffect s t) (h : Inv s) : Inv t := by
  cases e with
  | idle rest r => exact h.of_same rfl rfl rfl rfl rfl rfl rfl rfl rfl rfl rfl
  | reset _ => exact externalReset_inv (s := takeTurn s) h.pinsDistinct
  | ticked _ enabled => exact tick_inv (takeTurn_inv h) enabled
  | finished f _ _ => exact finishWrite_inv f (takeTurn_inv h)
  | begun u c angle rest _ filled => exact beginWrite_inv _ (h.nextCommands rest) filled
  | claimedFirst u minPW maxPW i rest issued _ _ first =>
    exact claimFirst_inv minPW maxPW (h.nextCommands rest) rfl first issued.idle
  | claimed u minPW maxPW i rest issued _ _ later =>
    exact claimLater_inv minPW maxPW (h.nextCommands rest) rfl later issued.idle
  | dropped u _ _ _ _ => exact h.of_same rfl rfl rfl rfl rfl rfl rfl rfl rfl rfl rfl
  | counted u c rest r event filled below =>
    have range := h.countRange u c filled
    have inRange : (c.pulseCount + 1).toNat ≤ 49 := by
      rw [Config.pulseRate] at below
      rw [BitVec.toNat_add_of_lt (by simp; omega)]
      change c.pulseCount.toNat + 1 ≤ 49
      omega
    exact (setCount_inv h filled inRange).of_same rfl rfl rfl rfl rfl rfl rfl rfl rfl rfl rfl
  | disconnected u c rest r event filled last =>
    exact (setCount_inv (n := 0) (disconnect_inv (u := u) h (h.idle_of_event event)) filled (by decide)).of_same
      rfl rfl rfl rfl rfl rfl rfl rfl rfl rfl rfl

/-- Settles O51: each effect that a step can have keeps the invariants. -/
theorem stepKeepsInvariants : Obligations.StepKeepsInvariants :=
  fun _ _ h stepped => (stepEffect_of_step stepped).inv h

/-- Every reachable state satisfies the invariants and what they rest on. -/
theorem Reachable.inv {s : State} (h : Reachable s) : Inv s := by
  induction h with
  | start s pins => exact externalReset_inv pins
  | step s t _ stepped ih => exact stepKeepsInvariants s t ih stepped

/-- Settles O52, by induction on the run: reset has the invariants and every step keeps them. -/
theorem reachableStatesSatisfyInvariants : Obligations.ReachableStatesSatisfyInvariants :=
  fun _ h => h.inv.toSpecInvariant

/-! ### Which fields a step can change -/

/-- The step claims the slot of `u` for an attach that the HOST issues (rules R26, R31, R40, R100). -/
structure Claims (u : CompareUnit) (s t : State) : Prop where
  issued : ∃ i minPW maxPW, Issues i s ∧ AttachForm (pinOf s.cfg u) minPW maxPW i
  empty : s.slot.get u = none
  filled : ∃ c, t.slot = s.slot.set u (some c)
  dir : t.dir = s.dir.set u .output
  enables : t.ocie = s.ocie ∧ t.com = s.com
  first : bothEmpty s = true → t.top = Config.topValue
  later : bothEmpty s = false → t.cs = s.cs ∧ t.top = s.top ∧ t.wgm = s.wgm

/-- The step leaves which slots are filled and with which pin and bounds, the directions and the timer's configuration. -/
structure KeepsSetup (s t : State) : Prop where
  empty : ∀ u, s.slot.get u = none → t.slot.get u = none
  filled : ∀ u c, s.slot.get u = some c → ∃ n, t.slot.get u = some { c with pulseCount := n }
  dir : t.dir = s.dir
  timer : t.cs = s.cs ∧ t.top = s.top ∧ t.wgm = s.wgm

theorem KeepsSetup.of_same {s t : State} (slot : t.slot = s.slot) (dir : t.dir = s.dir) (cs : t.cs = s.cs)
    (top : t.top = s.top) (wgm : t.wgm = s.wgm) : KeepsSetup s t where
  empty _ hu := slot ▸ hu
  filled _ c hc := ⟨c.pulseCount, slot ▸ hc⟩
  dir := dir
  timer := ⟨cs, top, wgm⟩

/-- A write of a pulse count. -/
theorem KeepsSetup.of_count {s t : State} {u : CompareUnit} {c : Channel} {n : Byte} (filled : s.slot.get u = some c)
    (slot : t.slot = s.slot.set u (some { c with pulseCount := n })) (dir : t.dir = s.dir) (cs : t.cs = s.cs)
    (top : t.top = s.top) (wgm : t.wgm = s.wgm) : KeepsSetup s t where
  empty v hv := by rw [slot]; exact (slot_set_some_eq_none_iff _ filled v).mpr hv
  filled v d hd := by
    rw [slot, PerUnit.get_set]
    split
    · next h =>
      subst h
      obtain rfl := Option.some.inj (filled.symm.trans hd)
      exact ⟨n, rfl⟩
    · exact ⟨d.pulseCount, hd⟩
  dir := dir
  timer := ⟨cs, top, wgm⟩

/-- Only an attach sets up a channel or the timer (rules R26, R31, R40, R100). -/
theorem StepEffect.claims_or_keepsSetup {s t : State} (e : StepEffect s t) (noReset : nextTurn s ≠ .reset) :
    (∃ u, Claims u s t) ∨ KeepsSetup s t := by
  cases e with
  | reset turn => exact absurd turn noReset
  | idle | ticked | finished | dropped => exact .inr (.of_same (by simp) (by simp) (by simp) (by simp) (by simp))
  | begun u c angle rest _ filled =>
    refine .inr ?_
    cases k : s.cfg.writeResetsWindow
    · exact .of_same (by simp [beginWrite_slot, k]) (by simp) (by simp) (by simp) (by simp)
    · exact .of_count (n := 0) filled (by simp [beginWrite_slot, k, filled]) (by simp) (by simp) (by simp) (by simp)
  | claimedFirst u minPW maxPW i rest issued form empty first =>
    exact .inl ⟨u, {
      issued := ⟨i, minPW, maxPW, issued, form⟩
      empty := empty
      filled := ⟨newChannel (pinOf s.cfg u) minPW maxPW, by simp⟩
      dir := by simp
      enables := by simp
      first := by simp
      later := by simp [first] }⟩
  | claimed u minPW maxPW i rest issued form empty later =>
    exact .inl ⟨u, {
      issued := ⟨i, minPW, maxPW, issued, form⟩
      empty := empty
      filled := ⟨newChannel (pinOf s.cfg u) minPW maxPW, by simp⟩
      dir := by simp
      enables := by simp
      first := by simp [later]
      later := by simp }⟩
  | counted u c rest r _ filled _ => exact .inr (.of_count (n := c.pulseCount + 1) filled (by simp) (by simp) (by simp) (by simp) (by simp))
  | disconnected u c rest r _ filled _ => exact .inr (.of_count (n := 0) filled (by simp) (by simp) (by simp) (by simp) (by simp))

theorem Claims.bothEmpty {u : CompareUnit} {s t : State} (h : Claims u s t) : bothEmpty t = false := by
  obtain ⟨c, filled⟩ := h.filled
  exact bothEmpty_of_filled (u := u) (c := c) (by simp [filled])

theorem Claims.host {u : CompareUnit} {s t : State} (h : Claims u s t) : nextTurn s = .host := by
  obtain ⟨_, _, _, issued, _⟩ := h.issued
  exact issued.turn

theorem KeepsSetup.empty_iff {s t : State} (h : KeepsSetup s t) (u : CompareUnit) :
    t.slot.get u = none ↔ s.slot.get u = none := by
  refine ⟨fun ht => ?_, h.empty u⟩
  by_contra hs
  obtain ⟨c, hc⟩ := Option.ne_none_iff_exists'.mp hs
  obtain ⟨n, hn⟩ := h.filled u c hc
  exact nomatch ht.symm.trans hn

/-- Only the TIMER moves the counter and the levels, while it runs (rules R32, R40). -/
theorem StepEffect.ticked_or_keeps {s t : State} (e : StepEffect s t) (noReset : nextTurn s ≠ .reset) :
    (nextTurn s = .timer ∧ tickEnabled s = true ∧ t = tick (takeTurn s)) ∨ (t.cnt = s.cnt ∧ t.level = s.level) := by
  cases e with
  | reset turn => exact absurd turn noReset
  | ticked turn enabled => exact .inl ⟨turn, enabled, rfl⟩
  | idle | finished | begun | claimedFirst | claimed | dropped | counted | disconnected => exact .inr ⟨by simp, by simp⟩

/-- Only CONNECT and DISCONNECT write the enables and the modes (rules R34, R35). -/
theorem StepEffect.enables_cases {s t : State} (e : StepEffect s t) (noReset : nextTurn s ≠ .reset) :
    (t.ocie = s.ocie ∧ t.com = s.com) ∨
    (∃ u angle, Issues (.writeAngle (pinOf s.cfg u) angle) s ∧
      t.ocie = s.ocie.set u true ∧ t.com = s.com.set u Config.comConnected) ∨
    (∃ u c, EventOf u s ∧ s.slot.get u = some c ∧ c.pulseCount.toNat + 1 = Config.pulseRate ∧
      t.ocie = s.ocie.set u false ∧ t.com = s.com.set u Config.comDisconnected) := by
  cases e with
  | reset turn => exact absurd turn noReset
  | begun u c angle rest issued _ =>
    exact .inr (.inl ⟨u, angle, issued, beginWrite_ocie u _ _, beginWrite_com u _ _⟩)
  | disconnected u c rest r event filled last => exact .inr (.inr ⟨u, c, event, filled, last, rfl, rfl⟩)
  | idle | ticked | finished | claimedFirst | claimed | dropped | counted => exact .inl ⟨by simp, by simp⟩

/-! ### The statements on one field -/

/-- Settles O18: the first claim writes `TOP`, and no other effect does. -/
theorem topIsWrittenByTheFirstAttachOnly : Obligations.TopIsWrittenByTheFirstAttachOnly := by
  refine ⟨rfl, externalReset_top, fun s t noReset stepped => ?_⟩
  obtain ⟨u, claim⟩ | keeps := (stepEffect_of_step stepped).claims_or_keepsSetup noReset
  · refine ⟨fun empty _ => claim.first empty, fun changed => ?_⟩
    cases first : bothEmpty s
    · exact absurd (claim.later first).2.1 changed
    · exact ⟨claim.host, rfl, claim.bothEmpty, claim.first first⟩
  · refine ⟨fun empty filled => ?_, fun changed => absurd keeps.timer.2.1 changed⟩
    rw [bothEmpty_congr keeps.empty_iff, empty] at filled
    exact nomatch filled

/-- Settles O22: an attach claims an empty slot only, and every other effect on a slot is on its count. -/
theorem filledSlotStaysUntilReset : Obligations.FilledSlotStaysUntilReset := by
  refine fun s u c filled => ⟨fun t noReset stepped => ?_, fun minPW maxPW pins => ?_⟩
  · obtain ⟨v, claim⟩ | keeps := (stepEffect_of_step stepped).claims_or_keepsSetup noReset
    · have other : u ≠ v := by rintro rfl; exact nomatch filled.symm.trans claim.empty
      obtain ⟨d, slot⟩ := claim.filled
      exact ⟨c, by rw [slot, PerUnit.get_set_ne _ _ other, filled], rfl, rfl, rfl⟩
    · obtain ⟨n, hn⟩ := keeps.filled u c filled
      exact ⟨_, hn, rfl, rfl, rfl⟩
  · simp [exec, execAttachMinmax, attachChannel, unitOf_pinOf pins, filled, reply, setResult]

/-- Settles O32: OCIE and COM change by the CONNECT of a WRITE_ANGLE and the DISCONNECT of a fiftieth event alone. -/
theorem onlyConnectAndDisconnectWriteEnables : Obligations.OnlyConnectAndDisconnectWriteEnables := by
  refine ⟨rfl, externalReset_ocie, fun u s => ⟨connect_ocie u s, disconnect_ocie u s⟩, fun s t noReset stepped => ?_⟩
  obtain same | ⟨u, _, issued, ocie, com⟩ | ⟨u, _, _, _, _, ocie, com⟩ :=
    (stepEffect_of_step stepped).enables_cases noReset
  · exact .inl same
  · exact .inr (.inl ⟨issued.turn, u, by rw [ocie, connect_ocie], by rw [com, connect_com]⟩)
  · exact .inr (.inr ⟨u, ocie, com⟩)

/-- Settles O48: a tick needs the running clock, and the configuration changes while both slots are empty only. -/
theorem timerRunsUntilReset : Obligations.TimerRunsUntilReset := by
  intro s t noReset stepped
  have e := stepEffect_of_step stepped
  refine ⟨fun turn => ?_, fun stopped => ?_, fun configured => ?_⟩
  · obtain ⟨timer, _, _⟩ | ⟨cnt, _⟩ := e.ticked_or_keeps noReset
    · exact absurd timer turn
    · exact cnt
  · obtain ⟨_, enabled, _⟩ | ⟨cnt, _⟩ := e.ticked_or_keeps noReset
    · exact absurd (stopped.symm.trans (tickEnabled_running enabled)) (by decide)
    · exact cnt
  · obtain ⟨u, claim⟩ | keeps := e.claims_or_keepsSetup noReset
    · exact claim.later configured
    · exact keeps.timer

/-- What the statements on a channel say of the word that claims it. -/
theorem Claims.word {u : CompareUnit} {s t : State} (h : Claims u s t) :
    ∃ w rest i, s.commands = w :: rest ∧ decode w = .ok i ∧
      (i = .attach (pinOf s.cfg u) ∨ ∃ lo hi, i = .attachMinmax (pinOf s.cfg u) lo hi) := by
  obtain ⟨i, minPW, maxPW, issued, form⟩ := h.issued
  obtain ⟨w, rest, next, decoded⟩ := issued.word
  exact ⟨w, rest, i, next, decoded, form.elim (fun e => .inr ⟨minPW, maxPW, e⟩) (fun e => .inl e.1)⟩

theorem Claims.idle {u : CompareUnit} {s t : State} (h : Claims u s t) : s.inflight = none := by
  obtain ⟨_, _, _, issued, _⟩ := h.issued
  exact issued.idle

theorem tick_level_of_disconnected {u : CompareUnit} {s : State} (h : s.com.get u ≠ Config.comConnected) :
    (tick s).level.get u = s.level.get u := by
  rw [tick_level_get, beq_false_of_ne h, cond_false]

/-- Settles O49: a level moves by a tick of a connected unit, a direction by the claim of its slot. -/
theorem onlyWaveformMovesLevel : Obligations.OnlyWaveformMovesLevel := by
  intro s t u noReset stepped
  have e := stepEffect_of_step stepped
  refine ⟨fun moved => ?_, fun turned => ?_⟩
  · obtain ⟨timer, _, rfl⟩ | ⟨_, level⟩ := e.ticked_or_keeps noReset
    · exact ⟨timer, not_not.mp fun disconnected => moved (tick_level_of_disconnected (s := takeTurn s) disconnected)⟩
    · exact absurd (by rw [level]) moved
  · obtain ⟨v, claim⟩ | keeps := e.claims_or_keepsSetup noReset
    · obtain rfl : u = v := by
        by_contra other
        exact turned (by rw [claim.dir, PerUnit.get_set_ne _ _ other])
      obtain ⟨c, filled⟩ := claim.filled
      exact ⟨by simp [claim.dir], claim.host, claim.idle, claim.empty, by simp [filled], claim.word⟩
    · exact absurd (by rw [keeps.dir]) turned

/-! ### The states of a channel (rule R28) -/

theorem channelState_eq_empty_iff (u : CompareUnit) (s : State) :
    channelState u s = .empty ↔ s.slot.get u = none := by
  unfold channelState
  cases s.slot.get u <;> cases connected u s <;> simp

theorem channelState_eq_disconnected_iff (u : CompareUnit) (s : State) :
    channelState u s = .disconnected ↔ s.slot.get u ≠ none ∧ connected u s = false := by
  unfold channelState
  cases s.slot.get u <;> cases connected u s <;> simp

theorem channelState_eq_connected_iff (u : CompareUnit) (s : State) :
    channelState u s = .connected ↔ s.slot.get u ≠ none ∧ connected u s = true := by
  unfold channelState
  cases s.slot.get u <;> cases connected u s <;> simp

/-- A unit whose enable and mode stay is connected as before. -/
theorem connected_congr {u : CompareUnit} {s t : State} (ocie : t.ocie.get u = s.ocie.get u)
    (com : t.com.get u = s.com.get u) : connected u t = connected u s := by
  rw [connected, connected, ocie, com]

/-- What a step can do to the connection of a unit (rules R28, R120, R121). -/
theorem StepEffect.connected_cases {s t : State} (e : StepEffect s t) (noReset : nextTurn s ≠ .reset) (u : CompareUnit) :
    connected u t = connected u s ∨
    (connected u t = true ∧ ∃ angle, Issues (.writeAngle (pinOf s.cfg u) angle) s) ∨
    (connected u t = false ∧ EventOf u s ∧ ∃ c, s.slot.get u = some c ∧ c.pulseCount.toNat + 1 = Config.pulseRate) := by
  obtain ⟨ocie, com⟩ | ⟨v, angle, issued, ocie, com⟩ | ⟨v, c, event, filled, last, ocie, com⟩ := e.enables_cases noReset
  · exact .inl (connected_congr (by rw [ocie]) (by rw [com]))
  · by_cases h : u = v
    · subst h
      exact .inr (.inl ⟨by simp [connected, ocie, com], angle, issued⟩)
    · exact .inl (connected_congr (by rw [ocie, PerUnit.get_set_ne _ _ h]) (by rw [com, PerUnit.get_set_ne _ _ h]))
  · by_cases h : u = v
    · subst h
      exact .inr (.inr ⟨by simp [connected, ocie], event, c, filled, last⟩)
    · exact .inl (connected_congr (by rw [ocie, PerUnit.get_set_ne _ _ h]) (by rw [com, PerUnit.get_set_ne _ _ h]))

/-- A filled slot stays filled until reset. -/
theorem StepEffect.filled_of_filled {s t : State} (e : StepEffect s t) (noReset : nextTurn s ≠ .reset) {u : CompareUnit}
    (filled : s.slot.get u ≠ none) : t.slot.get u ≠ none := by
  obtain ⟨v, claim⟩ | keeps := e.claims_or_keepsSetup noReset
  · obtain ⟨c, slot⟩ := claim.filled
    rw [slot, PerUnit.get_set]
    split
    · exact Option.some_ne_none c
    · exact filled
  · exact mt (keeps.empty_iff u).mp filled

/-- The slot that a step fills is the one it claims. -/
theorem StepEffect.claims_of_filled {s t : State} (e : StepEffect s t) (noReset : nextTurn s ≠ .reset) {u : CompareUnit}
    (empty : s.slot.get u = none) (filled : t.slot.get u ≠ none) : Claims u s t := by
  obtain ⟨v, claim⟩ | keeps := e.claims_or_keepsSetup noReset
  · obtain ⟨c, slot⟩ := claim.filled
    obtain rfl : u = v := by
      by_contra other
      exact filled (by rw [slot, PerUnit.get_set_ne _ _ other, empty])
    exact claim
  · exact absurd (keeps.empty u empty) filled

/-- Settles O55: an attach fills the slot, a WRITE_ANGLE connects, the fiftieth event disconnects, and nothing else changes
a channel's state. -/
theorem channelStateTransitions : Obligations.ChannelStateTransitions := by
  intro s t u h noReset stepped
  have e := stepEffect_of_step stepped
  refine ⟨channelState_eq_empty_iff u s, channelState_eq_disconnected_iff u s, channelState_eq_connected_iff u s, ?_⟩
  simp only [channelState_eq_empty_iff, channelState_eq_disconnected_iff, channelState_eq_connected_iff]
  refine ⟨fun empty => ?_, fun ⟨filled, apart⟩ => ?_, fun ⟨filled, conn⟩ => ?_⟩
  · obtain ⟨com, ocie⟩ := h.emptyUnit u empty
    refine ⟨com, ocie, or_iff_not_imp_left.mpr fun claimed => ?_⟩
    have claim := e.claims_of_filled noReset empty claimed
    exact ⟨⟨claimed, by simp [connected, claim.enables, ocie]⟩, claim.host, claim.word⟩
  · have filled' := e.filled_of_filled noReset filled
    obtain same | ⟨conn', angle, issued⟩ | ⟨apart', _⟩ := e.connected_cases noReset u
    · exact .inl ⟨filled', same.trans apart⟩
    · obtain ⟨w, rest, next, decoded⟩ := issued.word
      exact .inr ⟨⟨filled', conn'⟩, issued.turn, w, rest, angle, next, decoded⟩
    · exact .inl ⟨filled', apart'⟩
  · have filled' := e.filled_of_filled noReset filled
    obtain same | ⟨conn', _⟩ | ⟨apart', event, c, hc, last⟩ := e.connected_cases noReset u
    · exact .inl ⟨filled', same.trans conn⟩
    · exact .inl ⟨filled', conn'⟩
    · have count : c.pulseCount = 49 := BitVec.eq_of_toNat_eq (Nat.succ.inj last)
      refine .inr ⟨⟨filled', apart'⟩, ⟨c, hc, count⟩, event.imp_right fun issued => ?_⟩
      exact ⟨issued.turn, issued.idle, issued.allowed, issued.word⟩

/-! ### The HOST's turn and the reset, exactly (rules R21, R50, R51, R110) -/

/-- The step after a word is placed issues it. -/
theorem step_loadCommand (w : CommandWord) (s : State) :
    step (loadCommand w s) = issue w { takeTurn (loadCommand w s) with commands := s.commands } :=
  step_of_host_issues (s := loadCommand w s) rfl rfl rfl

/-- A word that is no DISPATCH is placed with the parameters as they are. -/
theorem loadCommand_cfg_of_ne_dispatch {w : CommandWord} {i : Instr} (s : State) (decoded : decode w = .ok i)
    (noDispatch : ∀ u, i ≠ .dispatch u) : (loadCommand w s).cfg = s.cfg := by
  cases i with
  | dispatch u => exact absurd rfl (noDispatch u)
  | attach _ | attachMinmax _ _ _ | writeAngle _ _ => simp only [loadCommand, decoded]

/-- A DISPATCH is placed as an injection. -/
theorem loadCommand_cfg_of_dispatch {w : CommandWord} {u : CompareUnit} (s : State) (decoded : decode w = .ok (.dispatch u)) :
    (loadCommand w s).cfg = { s.cfg with injectDispatch := true } := by
  simp only [loadCommand, decoded]

/-- The state on which a placed word's command runs. -/
theorem takeTurn_loadCommand (w : CommandWord) (s : State) :
    { takeTurn (loadCommand w s) with commands := s.commands } =
      { s with inflight := none, freeIndex := s.freeIndex + 1, cfg := (loadCommand w s).cfg } := rfl

/-- Settles O7: the placed word is issued, and the parameters with which it is placed let the HOST issue it. -/
theorem loadedWordRunsNext : Obligations.LoadedWordRunsNext := by
  intro s w i decoded
  rw [withFetchWord_word, step_loadCommand, takeTurn_loadCommand]
  refine ⟨fun noDispatch => ?_, ?_⟩
  · rw [loadCommand_cfg_of_ne_dispatch s decoded noDispatch]
    exact issue_of_decode_ok decoded (hostMayIssue_of_dispatch_injected fun u hu => absurd hu (noDispatch u))
  · rintro u rfl
    rw [loadCommand_cfg_of_dispatch s decoded]
    exact issue_of_decode_ok decoded rfl

/-- With a WRITE_ANGLE in flight the HOST's step is its second half. -/
theorem hostStep_of_inflight {s : State} {f : Inflight} (writing : s.inflight = some f) :
    hostStep s = .next (finishWrite f s) := by
  simp only [hostStep, writing]

/-- Settles O10: the HOST's step is the second half, whose writes are these. -/
theorem hostTurnInFlightStoresWidth : Obligations.HostTurnInFlightStoresWidth := by
  intro s f turn writing
  rw [step_of_turn turn]
  refine (hostStep_of_inflight (s := takeTurn s) writing).trans (congrArg _ ?_)
  ext1 <;> simp [Bool.cond_eq_ite]

theorem pinValue_of_input {u : CompareUnit} {s : State} (h : s.dir.get u = .input) : pinValue u s = .float := by
  simp only [pinValue, h]

/-- A reset turn from `s`. -/
theorem step_of_reset {s : State} (turn : nextTurn s = .reset) : step s = .next (externalReset (takeTurn s)) := by
  rw [step_of_turn turn]
  rfl

theorem controlBytes_externalReset (s : State) : ctrlA (externalReset s) = 0 ∧ ctrlB (externalReset s) = 0 ∧
    imsk (externalReset s) = 0 ∧ iflg (externalReset s) = 0 := by
  simp [ctrlA, ctrlB, imsk, iflg, PerUnit.both]

/-- Settles O14: `State.reset` is its own external reset, and a reset turn ends in an external reset. -/
theorem resetGivesEveryFieldItsValue : Obligations.ResetGivesEveryFieldItsValue := by
  intro t reset
  obtain ⟨s, rfl⟩ : ∃ s, t = externalReset s := by
    obtain rfl | ⟨s, turn, stepped⟩ := reset
    · exact ⟨State.reset, rfl⟩
    · exact ⟨_, (Host.Outcome.next.inj ((step_of_reset turn).symm.trans stepped)).symm⟩
  obtain ⟨a, b, enables, flags⟩ := controlBytes_externalReset s
  refine ⟨rfl, rfl, rfl, rfl, rfl, rfl, rfl, rfl, rfl, rfl, rfl, rfl, rfl, rfl, a, b, enables, flags, fun u => ?_⟩
  exact ⟨(channelState_eq_empty_iff u _).mpr (by simp), pinValue_of_input (by simp)⟩

/-! ### CONNECT and DISCONNECT in the register bytes (rules R41, R43, R44, R120, R121) -/

/-- Unit A's mode `c` written into the bits 7:6 of CTRL_A. -/
theorem ctrlA_bits_set_a : ∀ c a b w : BitVec 2,
    c ++ b ++ 0#2 ++ w = ((a ++ b ++ 0#2 ++ w) &&& 0x3F#8) ||| (c ++ 0#6) := by decide

/-- Unit B's mode `c` written into the bits 5:4 of CTRL_A. -/
theorem ctrlA_bits_set_b : ∀ c a b w : BitVec 2,
    a ++ c ++ 0#2 ++ w = ((a ++ b ++ 0#2 ++ w) &&& 0xCF#8) ||| (0#2 ++ c ++ 0#4) := by decide

theorem ctrlA_of_com_set_a {s t : State} {c : BitVec 2} (com : t.com = s.com.set .a c) (wgm : t.wgm = s.wgm) :
    ctrlA t = (ctrlA s &&& 0x3F#8) ||| (c ++ 0#6) := by
  rw [ctrlA, com, wgm]
  exact ctrlA_bits_set_a c s.com.a s.com.b (s.wgm.extractLsb' 0 2)

theorem ctrlA_of_com_set_b {s t : State} {c : BitVec 2} (com : t.com = s.com.set .b c) (wgm : t.wgm = s.wgm) :
    ctrlA t = (ctrlA s &&& 0xCF#8) ||| (0#2 ++ c ++ 0#4) := by
  rw [ctrlA, com, wgm]
  exact ctrlA_bits_set_b c s.com.a s.com.b (s.wgm.extractLsb' 0 2)

/-- IMSK and IFLG have one layout: unit A's bit is bit 1, unit B's bit 2 (rules R43, R44). -/
def unitBits (p : PerUnit Bool) : Byte := 0#5 ++ BitVec.ofBool p.b ++ BitVec.ofBool p.a ++ 0#1

theorem imsk_eq_unitBits (s : State) : imsk s = unitBits s.ocie := rfl

theorem iflg_eq_unitBits (s : State) : iflg s = unitBits s.ocf := rfl

theorem unitBits_set (p : PerUnit Bool) :
    unitBits (p.set .a true) = unitBits p ||| 0x02#8 ∧ unitBits (p.set .b true) = unitBits p ||| 0x04#8 ∧
    unitBits (p.set .a false) = unitBits p &&& 0xFD#8 ∧ unitBits (p.set .b false) = unitBits p &&& 0xFB#8 := by
  obtain ⟨a, b⟩ := p
  cases a <;> cases b <;> decide

/-- A register shows nothing of DISCONNECT but in CTRL_A and IMSK. -/
theorem regRead_disconnect (u : CompareUnit) (s : State) {r : Reg} (noModes : r ≠ .ctrlA) (noEnables : r ≠ .imsk) :
    regRead r (disconnect u s) = regRead r s := by
  cases r with
  | ctrlA => exact absurd rfl noModes
  | imsk => exact absurd rfl noEnables
  | _ => rfl

/-- A register shows nothing of CONNECT but in CTRL_A, IMSK and, with CONNECT_CLEARS_PENDING, IFLG. -/
theorem regRead_connect (u : CompareUnit) (s : State) {r : Reg} (noModes : r ≠ .ctrlA) (noEnables : r ≠ .imsk)
    (keeps : r = .iflg → s.cfg.connectClearsPending = false) : regRead r (connect u s) = regRead r s := by
  cases r with
  | ctrlA => exact absurd rfl noModes
  | imsk => exact absurd rfl noEnables
  | iflg => simp [regRead, iflg, keeps rfl]
  | ctrlB | status | top | ocrA | ocrB | cnt | pindir | pinlvl =>
    simp [regRead, ctrlB, status, pindir, pinlvl]

/-- Settles O33: the two bytes show the modes and the enables, and CONNECT and DISCONNECT write one unit's bits of them. -/
theorem connectionShowsInControlBytes : Obligations.ConnectionShowsInControlBytes := by
  intro s
  obtain ⟨set_a, set_b, clear_a, clear_b⟩ := unitBits_set s.ocie
  obtain ⟨_, _, pending_a, pending_b⟩ := unitBits_set s.ocf
  simp only [imsk_eq_unitBits, iflg_eq_unitBits, connect_ocie, disconnect_ocie, connect_ocf]
  refine ⟨ctrlA_of_com_set_a (connect_com .a s) (connect_wgm .a s), set_a,
    ctrlA_of_com_set_b (connect_com .b s) (connect_wgm .b s), set_b, ?_, clear_a, ?_, clear_b, ?_, ?_⟩
  · exact (ctrlA_of_com_set_a (disconnect_com .a s) rfl).trans (BitVec.or_zero)
  · exact (ctrlA_of_com_set_b (disconnect_com .b s) rfl).trans (BitVec.or_zero)
  · intro clears
    rw [clears]
    exact ⟨pending_a, pending_b⟩
  · exact fun u r noModes noEnables =>
      ⟨regRead_disconnect u s noModes noEnables, regRead_connect u s noModes noEnables⟩

/-! ### A register reads back its write (rules R41 to R48, R64, R67) -/

/-- The two halves of WGM, in CTRL_A and CTRL_B, are written apart (rules R41, R42). -/
theorem wgm_low_high (hi lo : BitVec 2) :
    (hi ++ lo : BitVec 4).extractLsb' 0 2 = lo ∧ (hi ++ lo : BitVec 4).extractLsb' 2 2 = hi :=
  ⟨field_of_low hi lo, (field_of_high hi lo 0 2).trans (field_whole hi)⟩

/-- The registers share no field but WGM, whose halves are written apart. -/
theorem regRead_regWrite_ne {r q : Reg} (v : Half) (s : State) (h : q ≠ r) :
    regRead q (regWrite r v s) = regRead q s := by
  cases r with
  | ctrlA | ctrlB =>
    cases q <;> simp [regRead, regWrite, ctrlA, ctrlB, imsk, iflg, status, pindir, pinlvl, wgm_low_high] at h ⊢
  | imsk | iflg | status | top | ocrA | ocrB | cnt | pindir | pinlvl =>
    cases q <;> simp [regRead, regWrite, ctrlA, ctrlB, imsk, iflg, status, pindir, pinlvl, PerUnit.set] at h ⊢

theorem dirBit_dirOfBit (b : Bool) : dirBit (dirOfBit b) = BitVec.ofBool b := by cases b <;> rfl

/-! The fields of each layout, written from a half word, make up its masked bits. -/

theorem modes_of_half (v : Half) :
    (v.extractLsb' 6 2 ++ v.extractLsb' 4 2 ++ 0#2 ++ v.extractLsb' 0 2 : BitVec (2 + 2 + 2 + 2)).setWidth 16 =
      v &&& 0x00F3#16 := by
  ext k hk
  simp only [BitVec.getElem_setWidth, BitVec.getLsbD_append, BitVec.getElem_and]
  interval_cases k <;> simp

theorem clock_of_half (v : Half) :
    (0#3 ++ v.extractLsb' 3 2 ++ v.extractLsb' 0 3 : BitVec (3 + 2 + 3)).setWidth 16 = v &&& 0x001F#16 := by
  ext k hk
  simp only [BitVec.getElem_setWidth, BitVec.getLsbD_append, BitVec.getElem_and]
  interval_cases k <;> simp

theorem unitBits_of_half (v : Half) :
    (0#5 ++ BitVec.ofBool (v.getLsbD 2) ++ BitVec.ofBool (v.getLsbD 1) ++ 0#1 : BitVec (5 + 1 + 1 + 1)).setWidth 16 =
      v &&& 0x0006#16 := by
  ext k hk
  simp only [BitVec.getElem_setWidth, BitVec.getLsbD_append, BitVec.getElem_and]
  interval_cases k <;> simp

theorem status_of_half (v : Half) :
    (BitVec.ofBool (v.getLsbD 7) ++ v.extractLsb' 0 7 : BitVec (1 + 7)).setWidth 16 = v &&& 0x00FF#16 := by
  ext k hk
  simp only [BitVec.getElem_setWidth, BitVec.getLsbD_append, BitVec.getElem_and]
  interval_cases k <;> simp

theorem pins_of_half (v : Half) :
    (BitVec.ofBool (v.getLsbD 1) ++ BitVec.ofBool (v.getLsbD 0) : BitVec (1 + 1)).setWidth 16 = v &&& 0x0003#16 := by
  ext k hk
  simp only [BitVec.getElem_setWidth, BitVec.getLsbD_append, BitVec.getElem_and]
  interval_cases k <;> simp

theorem regRead_regWrite_self (r : Reg) (v : Half) (s : State) :
    regRead r (regWrite r v s) = v &&& r.fieldMask := by
  cases r with
  | top | ocrA | ocrB | cnt => exact BitVec.and_allOnes.symm
  | ctrlA =>
    have low : (regWrite .ctrlA v s).wgm.extractLsb' 0 2 = v.extractLsb' 0 2 := (wgm_low_high _ _).1
    simp only [regRead, ctrlA, low]
    exact modes_of_half v
  | ctrlB =>
    have high : (regWrite .ctrlB v s).wgm.extractLsb' 2 2 = v.extractLsb' 3 2 := (wgm_low_high _ _).2
    simp only [regRead, ctrlB, high]
    exact clock_of_half v
  | imsk | iflg => exact unitBits_of_half v
  | status => exact status_of_half v
  | pindir =>
    have bits : pindir (regWrite .pindir v s) = BitVec.ofBool (v.getLsbD 1) ++ BitVec.ofBool (v.getLsbD 0) :=
      congrArg₂ _ (dirBit_dirOfBit _) (dirBit_dirOfBit _)
    rw [regRead, bits]
    exact pins_of_half v
  | pinlvl => exact pins_of_half v

/-- Settles O34: the register that is written holds its fields' bits, and no two registers share a field. -/
theorem registerReadsBackItsWrite : Obligations.RegisterReadsBackItsWrite :=
  fun r v s => ⟨regRead_regWrite_self r v s, fun _ h => regRead_regWrite_ne v s h⟩

end Sys2Proof.Machine

/-! Proofs of the statements on the register space and on the units apart (rules R64 to R67, R75): what an access by address
reaches, what a one-byte observation sees, and which registers and which unit each command leaves as they were. -/

namespace Sys2Proof.Machine

/-! ### The registers of a map (rules R60, R64, R66) -/

theorem mem_allRegs (r : Reg) : r ∈ allRegs := by cases r <;> decide

theorem Reg.bytes_pos (r : Reg) : 0 < r.bytes := by cases r <;> decide

/-- A byte of `r` stands at `a`. -/
def Reg.Covers (m : RegMap) (r : Reg) (a : Nat) : Prop := r.address m ≤ a ∧ a < r.address m + r.bytes

theorem Reg.covers_address (m : RegMap) (r : Reg) : r.Covers m (r.address m) :=
  ⟨le_rfl, Nat.lt_add_of_pos_right r.bytes_pos⟩

theorem Reg.covers_iff (m : RegMap) (r : Reg) (a : Nat) :
    r.Covers m a ↔ a = r.address m ∨ (r.bytes = 2 ∧ a = r.address m + 1) := by
  have width : r.bytes = 1 ∨ r.bytes = 2 := by cases r <;> decide
  unfold Reg.Covers
  omega

/-- In a map that fits no two registers share a byte. -/
theorem Reg.Covers.unique {m : RegMap} (fits : mapFits m = true) {r q : Reg} {a : Nat} (hr : r.Covers m a)
    (hq : q.Covers m a) : q = r := by
  simp only [mapFits, Bool.and_eq_true, List.all_eq_true] at fits
  obtain ⟨_, apart⟩ := fits
  have apart := apart q (mem_allRegs q) r (mem_allRegs r)
  simp only [Bool.or_eq_true, beq_iff_eq, decide_eq_true_eq] at apart
  obtain (same | below) | above := apart
  · exact same
  · exact absurd (hq.2.trans_le below) hr.1.not_gt
  · exact absurd (hr.2.trans_le above) hq.1.not_gt

theorem regAt_eq_none_iff (m : RegMap) (a n : Nat) :
    regAt m a n = none ↔ ∀ r : Reg, ¬(r.address m = a ∧ r.bytes = n) := by
  simp [regAt, mem_allRegs]

/-- An access with the address and width of a register reaches that register. -/
theorem regAt_address {m : RegMap} (fits : mapFits m = true) (r : Reg) : regAt m (r.address m) r.bytes = some r := by
  cases found : regAt m (r.address m) r.bytes with
  | none => exact absurd ⟨rfl, rfl⟩ ((regAt_eq_none_iff m _ _).mp found r)
  | some q =>
    have starts : q.address m = r.address m := by
      have matched := List.find?_some found
      simp only [Bool.and_eq_true, beq_iff_eq] at matched
      exact matched.1
    exact congrArg some (r.covers_address m |>.unique fits (starts ▸ q.covers_address m))

/-- A memory write is the write by name of the register that stands there (rule R64). -/
theorem memWrite_eq (address n : Nat) (v : Half) (s : State) :
    memWrite address n v s =
      (regAt s.cfg.regs address n).elim (.error (.registerAccess address n)) (fun r => .ok (regWrite r v s)) := by
  unfold memWrite
  split <;> simp_all

/-- Settles O35: the map's search finds the register that starts there with that width, and nothing else. -/
theorem memoryAccessIsRegisterAccess : Obligations.MemoryAccessIsRegisterAccess := by
  intro s fits
  simp only [memRead_eq, memWrite_eq]
  constructor
  · intro r
    rw [regAt_address fits r]
    exact ⟨rfl, fun _ => rfl⟩
  · intro a n elsewhere
    rw [(regAt_eq_none_iff s.cfg.regs a n).mpr elsewhere]
    exact ⟨rfl, fun _ => rfl⟩

/-! ### What a one-byte observation sees (rule R65) -/

theorem mem_of_readCell {a : Nat} {v : Byte} {m : List Host.Cell} (h : readCell a m = some v) : (a, v) ∈ m := by
  induction m with
  | nil => cases h
  | cons c m ih =>
    obtain ⟨k, w⟩ := c
    by_cases here : k = a
    · simp_all [readCell]
    · exact List.mem_cons_of_mem _ (ih (readCell_cons_ne w m here ▸ h))

theorem readCell_flatMap (a : Nat) (cells : Reg → List Host.Cell) (regs : List Reg) :
    readCell a (regs.flatMap cells) = regs.findSome? fun r => readCell a (cells r) := by
  induction regs with
  | nil => rfl
  | cons r regs ih =>
    rw [List.flatMap_cons, readCell_append, ih, List.findSome?_cons]
    cases readCell a (cells r) <;> rfl

/-- An observation shows the first register that has a byte there. -/
theorem observeByte_eq (a : Nat) (s : State) :
    observeByte a s = allRegs.findSome? fun r => readCell a (regCells s r) := readCell_flatMap a _ _

theorem covers_of_readCell {s : State} {r : Reg} {a : Nat} {v : Byte} (h : readCell a (regCells s r) = some v) :
    r.Covers s.cfg.regs a := regCells_address s r (mem_of_readCell h)

theorem readCell_regCells_of_not_covers {s : State} {r : Reg} {a : Nat} (h : ¬r.Covers s.cfg.regs a) :
    readCell a (regCells s r) = none :=
  Option.eq_none_iff_forall_ne_some.mpr fun _ seen => h (covers_of_readCell seen)

theorem readCell_regCells_low (s : State) (r : Reg) :
    readCell (r.address s.cfg.regs) (regCells s r) = some ((regRead r s).extractLsb' 0 8) := by
  unfold regCells
  dsimp only
  split <;> simp [readCell]

theorem readCell_regCells_high (s : State) {r : Reg} (half : r.bytes = 2) :
    readCell (r.address s.cfg.regs + 1) (regCells s r) = some ((regRead r s).extractLsb' 8 8) := by
  simp [regCells, half, readCell]

/-- In a map that fits, an observation sees the byte of the one register that covers the address. -/
theorem observeByte_of_readCell {s : State} {r : Reg} {a : Nat} {v : Byte} (fits : mapFits s.cfg.regs = true)
    (h : readCell a (regCells s r) = some v) : observeByte a s = some v := by
  rw [observeByte_eq]
  cases seen : allRegs.findSome? fun q => readCell a (regCells s q) with
  | none => exact absurd (List.findSome?_eq_none_iff.mp seen r (mem_allRegs r)) (by simp [h])
  | some w =>
    obtain ⟨q, _, byQ⟩ := List.exists_of_findSome?_eq_some seen
    obtain rfl := (covers_of_readCell h).unique fits (covers_of_readCell byQ)
    exact byQ.symm.trans h

/-- Settles O36: each of the two bytes stands in one cell of its register, and no other register covers it. -/
theorem sixteenBitRegistersAreLittleEndian : Obligations.SixteenBitRegistersAreLittleEndian := fun s r fits half =>
  ⟨observeByte_of_readCell fits (readCell_regCells_low s r), observeByte_of_readCell fits (readCell_regCells_high s half)⟩

/-! ### The registers that each command leaves (rules R67, R77, R102, R110, R130) -/

/-- An address outside the registers that change shows the same byte, in any map. -/
theorem observeByte_of_outside {s t : State} {a : Nat} (changed : List Reg) (map : t.cfg.regs = s.cfg.regs)
    (frame : ∀ r, r ∉ changed → regRead r t = regRead r s) (outside : ∀ r ∈ changed, ¬r.Covers s.cfg.regs a) :
    observeByte a t = observeByte a s := by
  rw [observeByte_eq, observeByte_eq]
  congr 1
  funext r
  by_cases h : r ∈ changed
  · have unseen := outside r h
    rw [readCell_regCells_of_not_covers unseen, readCell_regCells_of_not_covers (map ▸ unseen)]
  · rw [regCells, regCells, frame r h, map]

theorem attachChannel_cfg (pin : Byte) (minPW maxPW : Half) (s : State) :
    (attachChannel pin minPW maxPW s).cfg = s.cfg := by
  obtain ⟨_, e⟩ | ⟨_, _, _, _, e⟩ | ⟨_, _, _, _, e⟩ | ⟨_, _, _, _, e⟩ := attachChannel_cases pin minPW maxPW s <;>
    rw [e] <;> rfl

theorem regRead_attachChannel (pin : Byte) (minPW maxPW : Half) (s : State) {r : Reg}
    (kept : r ∉ [.top, .ctrlA, .ctrlB, .status, .pindir]) :
    regRead r (attachChannel pin minPW maxPW s) = regRead r s := by
  obtain ⟨_, e⟩ | ⟨_, _, _, _, e⟩ | ⟨_, _, _, _, e⟩ | ⟨_, _, _, _, e⟩ := attachChannel_cases pin minPW maxPW s <;>
    rw [e] <;> cases r with
    | imsk | iflg | ocrA | ocrB | cnt | pinlvl => rfl
    | top | ctrlA | ctrlB | status | pindir => simp at kept

theorem regRead_beginWrite (u : CompareUnit) (w : Half) (s : State) {r : Reg}
    (kept : r ∉ [.ctrlA, .imsk, .iflg, .status]) : regRead r (beginWrite u w s) = regRead r s := by
  cases r with
  | ctrlA | imsk | iflg | status => simp at kept
  | ctrlB | top | ocrA | ocrB | cnt | pindir | pinlvl => simp [regRead, ctrlB, pindir, pinlvl]

theorem regRead_finishWrite (f : Inflight) (s : State) {r : Reg} (kept : r ∉ [compareReg f.unit, .status]) :
    regRead r (finishWrite f s) = regRead r s := by
  obtain ⟨u, w⟩ := f
  cases r with
  | status => simp at kept
  | ocrA | ocrB => cases u <;> simp [compareReg, regRead, PerUnit.set] at kept ⊢
  | ctrlA | ctrlB | imsk | iflg | top | cnt | pindir | pinlvl => rfl

theorem regRead_of_dispatch {u : CompareUnit} {s t : State} (h : exec (.dispatch u) s = .next t) {r : Reg}
    (kept : r ∉ [.ctrlA, .imsk]) : regRead r t = regRead r s := by
  rw [(exec_dispatch_frame h).1]
  cases r with
  | ctrlA | imsk => simp at kept
  | ctrlB | iflg | status | top | ocrA | ocrB | cnt | pindir | pinlvl => rfl

/-- An attach in either form ends in `attachChannel` (rule R101). -/
theorem eq_attachChannel_of_exec {s t : State} {pin : Byte} {minPW maxPW : Half}
    (h : exec (.attach pin) s = .next t ∨ exec (.attachMinmax pin minPW maxPW) s = .next t) :
    ∃ lo hi, t = attachChannel pin lo hi s := by
  obtain h | h := h <;> exact ⟨_, _, (Host.Outcome.next.inj h).symm⟩

/-- Settles O37: each command keeps every register but those named, and the address is in none of these. -/
theorem commandsTouchOnlyTheirRegisters : Obligations.CommandsTouchOnlyTheirRegisters := by
  refine ⟨?_, ?_, ?_, ?_⟩
  · intro s t a pin minPW maxPW h top topHigh modes clock status pins
    obtain ⟨lo, hi, rfl⟩ := eq_attachChannel_of_exec h
    refine observeByte_of_outside _ (congrArg _ (attachChannel_cfg pin lo hi s))
      (fun _ => regRead_attachChannel pin lo hi s) ?_
    simp [Reg.covers_iff, Reg.address, Reg.bytes, top, topHigh, modes, clock, status, pins]
  · intro s t a pin angle h modes enables flags status
    obtain ⟨_, e⟩ | ⟨_, _, _, e⟩ | ⟨u, c, _, _, e⟩ := exec_writeAngle_cases pin angle s <;>
      obtain rfl := Host.Outcome.next.inj (e.symm.trans h)
    · rfl
    · rfl
    · refine observeByte_of_outside _ (by simp) (fun _ => regRead_beginWrite u _ s) ?_
      simp [Reg.covers_iff, Reg.address, Reg.bytes, modes, enables, flags, status]
  · intro s a f low high status
    refine observeByte_of_outside _ rfl (fun _ => regRead_finishWrite f s) (List.forall_mem_cons.mpr ⟨?_, ?_⟩)
    · simp [Reg.covers_iff, low, high]
    · simp [Reg.covers_iff, Reg.address, Reg.bytes, status]
  · intro s t a u h modes enables
    have map : t.cfg.regs = s.cfg.regs := by rw [(exec_dispatch_frame h).1]
    refine observeByte_of_outside _ map (fun _ => regRead_of_dispatch h) ?_
    simp [Reg.covers_iff, Reg.address, Reg.bytes, modes, enables]

/-! ### The unit that a command is not for (rule R75) -/

/-- The record, the fields and the pin of `u` are as before. -/
def KeepsUnit (u : CompareUnit) (s t : State) : Prop :=
  t.slot.get u = s.slot.get u ∧ t.com.get u = s.com.get u ∧ t.ocie.get u = s.ocie.get u ∧ t.ocf.get u = s.ocf.get u ∧
  t.ocr.get u = s.ocr.get u ∧ t.ocrAct.get u = s.ocrAct.get u ∧ t.dir.get u = s.dir.get u ∧ t.level.get u = s.level.get u

theorem KeepsUnit.refl (u : CompareUnit) (s : State) : KeepsUnit u s s := ⟨rfl, rfl, rfl, rfl, rfl, rfl, rfl, rfl⟩

theorem attachChannel_keepsUnit_other {s : State} {pin : Byte} {u : CompareUnit} (known : unitOf s.cfg pin = some u)
    (minPW maxPW : Half) : KeepsUnit u.other s (attachChannel pin minPW maxPW s) := by
  obtain ⟨_, e⟩ | ⟨_, _, _, _, e⟩ | ⟨v, claims, _, _, e⟩ | ⟨v, claims, _, _, e⟩ :=
    attachChannel_cases pin minPW maxPW s <;> rw [e]
  · exact .refl _ s
  · exact .refl _ s
  all_goals
    obtain rfl := Option.some.inj (known.symm.trans claims)
    simp [KeepsUnit]

theorem beginWrite_keepsUnit_other (u : CompareUnit) (w : Half) (s : State) : KeepsUnit u.other s (beginWrite u w s) := by
  simp only [KeepsUnit, beginWrite_slot, beginWrite_com, beginWrite_ocie, beginWrite_ocf, Bool.cond_eq_ite]
  refine ⟨?_, by simp, by simp, ?_, by simp, by simp, by simp, by simp⟩ <;> split <;> simp

theorem finishWrite_keepsUnit_other (f : Inflight) (s : State) : KeepsUnit f.unit.other s (finishWrite f s) := by
  refine ⟨rfl, rfl, rfl, rfl, PerUnit.get_set_other _ _ _, ?_, rfl, rfl⟩
  rw [finishWrite_ocrAct, Bool.cond_eq_ite]
  split <;> simp

theorem writeAngle_keepsUnit_other {s t : State} {pin : Byte} {u : CompareUnit} {angle : Int}
    (known : unitOf s.cfg pin = some u) (h : exec (.writeAngle pin angle) s = .next t) : KeepsUnit u.other s t := by
  obtain ⟨_, e⟩ | ⟨_, _, _, e⟩ | ⟨v, c, writes, _, e⟩ := exec_writeAngle_cases pin angle s <;>
    obtain rfl := Host.Outcome.next.inj (e.symm.trans h)
  · exact .refl _ s
  · exact .refl _ s
  · obtain rfl := Option.some.inj (known.symm.trans writes)
    exact beginWrite_keepsUnit_other u _ s

theorem dispatch_keepsUnit_other {s t : State} {u : CompareUnit} (h : exec (.dispatch u) s = .next t) :
    KeepsUnit u.other s t := by
  obtain ⟨same, others⟩ := exec_dispatch_frame h
  obtain ⟨slot, com, ocie⟩ := others u.other u.other_ne
  refine ⟨slot, com, ocie, ?_⟩
  rw [same]
  exact ⟨rfl, rfl, rfl, rfl, rfl⟩

/-- Settles O43: the command's pin selects `u`, and every write of a pair is at the selected unit. -/
theorem commandsLeaveTheOtherUnit : Obligations.CommandsLeaveTheOtherUnit := by
  refine ⟨fun s t u i distinct command h => ?_, fun s f => finishWrite_keepsUnit_other f s⟩
  have known := unitOf_pinOf distinct u
  obtain rfl | ⟨lo, hi, rfl⟩ | ⟨angle, rfl⟩ | rfl := command
  · exact Host.Outcome.next.inj h ▸ attachChannel_keepsUnit_other known _ _
  · exact Host.Outcome.next.inj h ▸ attachChannel_keepsUnit_other known lo hi
  · exact writeAngle_keepsUnit_other known h
  · exact dispatch_keepsUnit_other h

end Sys2Proof.Machine

/-! Proofs of the statements on the encoding (30_encoding.md): the decoder and the encoder are inverse, which words are
illegal, the bytes of a word, a DISPATCH of the HOST, and the assembler's check. -/

namespace Sys2Proof

/-! ### What the decoder gives on each format (rules R82, R85) -/

theorem decode_attachFormat (p : Byte) : decode (wordOf opAttach p 0 0) = .ok (.attach p) := by
  simp [decode_wordOf]

theorem decode_attachMinmaxFormat (p : Byte) (x y : Half) :
    decode (wordOf opAttachMinmax p x y) = .ok (.attachMinmax p x y) := by
  simp [decode_wordOf, opAttachMinmax, opAttach]

theorem decode_writeAngleFormat (p : Byte) (x : Half) :
    decode (wordOf opWriteAngle p x 0) = .ok (.writeAngle p (signedHalf x)) := by
  simp [decode_wordOf, opWriteAngle, opAttachMinmax, opAttach]

theorem decode_dispatchFormat {p : Byte} (upper : p.extractLsb' 1 7 = 0) :
    decode (wordOf opDispatch p 0 0) = .ok (.dispatch (unitOfBit (p.getLsbD 0))) := by
  simp [decode_wordOf, opDispatch, opWriteAngle, opAttachMinmax, opAttach, upper]

/-! ### The operands that are not their field as it stands (rule R83) -/

theorem angleInRange_iff (angle : Int) : angleInRange angle = true ↔ -32768 ≤ angle ∧ angle ≤ 32767 := by
  simp [angleInRange]

theorem signedHalf_ofInt {angle : Int} (h : angleInRange angle = true) : signedHalf (BitVec.ofInt 16 angle) = angle := by
  obtain ⟨lower, upper⟩ := (angleInRange_iff angle).mp h
  exact BitVec.toInt_ofInt_eq_self (by decide) lower (Int.lt_add_one_of_le upper)

theorem ofInt_signedHalf (x : Half) : BitVec.ofInt 16 (signedHalf x) = x := BitVec.ofInt_toInt

theorem angleInRange_signedHalf (x : Half) : angleInRange (signedHalf x) = true :=
  (angleInRange_iff _).mpr ⟨BitVec.le_toInt x, Int.le_of_lt_add_one BitVec.toInt_lt⟩

theorem unitField_upper (u : CompareUnit) : (unitField u).extractLsb' 1 7 = 0 := by cases u <;> rfl

theorem unitOfBit_unitField (u : CompareUnit) : unitOfBit ((unitField u).getLsbD 0) = u := by cases u <;> rfl

/-- `P[7:1]` is zero exactly when `P` is 0 or 1. -/
theorem upper_eq_zero_iff (p : Byte) : p.extractLsb' 1 7 = 0 ↔ p.toNat ≤ 1 := by
  have value : (p.extractLsb' 1 7).toNat = p.toNat / 2 := by
    have bound := p.isLt
    rw [BitVec.extractLsb'_toNat, Nat.shiftRight_eq_div_pow]
    omega
  bv_omega

theorem unitField_unitOfBit {p : Byte} (upper : p.extractLsb' 1 7 = 0) : unitField (unitOfBit (p.getLsbD 0)) = p := by
  have range := (upper_eq_zero_iff p).mp upper
  obtain rfl | rfl : p = 0 ∨ p = 1 := by bv_omega
  · rfl
  · rfl

/-! ### The round trips (rules R82, R83, R85) -/

/-- Settles O1: each format is decoded to its command, and the signed angle and the unit are read back from their fields. -/
theorem decodeOfEncode : Obligations.DecodeOfEncode := by
  intro i wf
  cases i with
  | attach pin => exact decode_attachFormat pin
  | attachMinmax pin minPW maxPW => exact decode_attachMinmaxFormat pin minPW maxPW
  | writeAngle pin angle => rw [encode, decode_writeAngleFormat, signedHalf_ofInt wf]
  | dispatch u => rw [encode, decode_dispatchFormat (unitField_upper u), unitOfBit_unitField]

/-- Settles O2: an accepted word is the word of its fields, and the decoder has checked those that the encoder fixes. -/
theorem encodeOfDecode : Obligations.EncodeOfDecode := by
  intro w i decoded
  obtain ⟨z, format⟩ := decode_ok_cases decoded
  rw [← wordOf_fields w z]
  obtain ⟨op, x, y, rfl⟩ | ⟨op, rfl⟩ | ⟨op, y, rfl⟩ | ⟨op, upper, x, y, rfl⟩ := format
  · rw [op, x, y]
    exact ⟨rfl, rfl⟩
  · rw [op]
    exact ⟨rfl, rfl⟩
  · rw [op, y, encode, ofInt_signedHalf]
    exact ⟨angleInRange_signedHalf _, rfl⟩
  · rw [op, x, y, encode, unitField_unitOfBit upper]
    exact ⟨rfl, rfl⟩

/-- Different well-formed commands have different words. -/
theorem encode_inj {i j : Instr} (hi : i.WellFormed) (hj : j.WellFormed) (h : encode i = encode j) : i = j :=
  Except.ok.inj ((decodeOfEncode i hi).symm.trans ((congrArg decode h).trans (decodeOfEncode j hj)))

/-- Settles O3: the decoder evaluates to the named result on each of these words. -/
theorem exampleWordsDecode : Obligations.ExampleWordsDecode := ⟨rfl, rfl, rfl, rfl, rfl, rfl, rfl, rfl, rfl, rfl⟩

/-! ### Illegal words (rules R85, R86) -/

theorem decode_error_iff (w : CommandWord) : (∃ e, decode w = .error e) ↔ ¬∃ i, decode w = .ok i := by
  cases decode w <;> simp

/-- Which words are legal (rule R85). -/
theorem decode_ok_iff (w : CommandWord) :
    (∃ i, decode w = .ok i) ↔ zField w = 0 ∧
      ((opField w = opAttach ∧ xField w = 0 ∧ yField w = 0) ∨
       opField w = opAttachMinmax ∨
       (opField w = opWriteAngle ∧ yField w = 0) ∨
       (opField w = opDispatch ∧ xField w = 0 ∧ yField w = 0 ∧ (pField w).toNat ≤ 1)) := by
  constructor
  · rintro ⟨i, decoded⟩
    obtain ⟨z, ⟨op, x, y, _⟩ | ⟨op, _⟩ | ⟨op, y, _⟩ | ⟨op, upper, x, y, _⟩⟩ := decode_ok_cases decoded
    · exact ⟨z, .inl ⟨op, x, y⟩⟩
    · exact ⟨z, .inr (.inl op)⟩
    · exact ⟨z, .inr (.inr (.inl ⟨op, y⟩))⟩
    · exact ⟨z, .inr (.inr (.inr ⟨op, x, y, (upper_eq_zero_iff _).mp upper⟩))⟩
  · rintro ⟨z, format⟩
    rw [← wordOf_fields w z]
    obtain ⟨op, x, y⟩ | op | ⟨op, y⟩ | ⟨op, x, y, unit⟩ := format
    · rw [op, x, y]
      exact ⟨_, decode_attachFormat _⟩
    · rw [op]
      exact ⟨_, decode_attachMinmaxFormat _ _ _⟩
    · rw [op, y]
      exact ⟨_, decode_writeAngleFormat _ _⟩
    · rw [op, x, y]
      exact ⟨_, decode_dispatchFormat ((upper_eq_zero_iff _).mpr unit)⟩

/-- The illegal words of rule R86 are those that are not legal. -/
theorem decode_error_iff_fields (w : CommandWord) :
    (∃ e, decode w = .error e) ↔
      (opField w ≠ 0x01 ∧ opField w ≠ 0x02 ∧ opField w ≠ 0x03 ∧ opField w ≠ 0x10) ∨
      zField w ≠ 0 ∨
      (opField w = 0x01 ∧ (xField w ≠ 0 ∨ yField w ≠ 0)) ∨
      (opField w = 0x03 ∧ yField w ≠ 0) ∨
      (opField w = 0x10 ∧ (xField w ≠ 0 ∨ yField w ≠ 0 ∨ (pField w).toNat > 1)) := by
  rw [decode_error_iff, decode_ok_iff, opAttach, opAttachMinmax, opWriteAngle, opDispatch]
  by_cases z : zField w = 0
  · by_cases attach : opField w = 0x01
    · simp [z, attach, imp_iff_not_or]
    by_cases minmax : opField w = 0x02
    · simp [z, minmax]
    by_cases angle : opField w = 0x03
    · simp [z, angle]
    by_cases dispatch : opField w = 0x10
    · simp [z, dispatch, imp_iff_not_or]
    · refine iff_of_true (fun ⟨_, format⟩ => ?_) (.inl ⟨attach, minmax, angle, dispatch⟩)
      obtain ⟨op, _⟩ | op | ⟨op, _⟩ | ⟨op, _⟩ := format
      exacts [attach op, minmax op, angle op, dispatch op]
  · exact iff_of_true (fun legal => z legal.1) (.inr (.inl z))

/-! ### Bytes (rules R80, R88) -/

/-- A byte joined below the part of the word above it. -/
theorem append_byteOfWord {w : CommandWord} {n : Nat} {high : BitVec n} (k : Nat)
    (h : high = w.extractLsb' (8 * (k + 1)) n) : high ++ byteOfWord w k = w.extractLsb' (8 * k) (n + 8) :=
  h ▸ fields_join w (8 * k) 8 n

theorem wordOfBytes_bytesOfWord (w : CommandWord) (rest : List Byte) :
    wordOfBytes (bytesOfWord w ++ rest) = some (w, rest) := by
  have join := append_byteOfWord 0 <| append_byteOfWord 1 <| append_byteOfWord 2 <| append_byteOfWord 3 <|
    append_byteOfWord 4 <| append_byteOfWord 5 <| append_byteOfWord 6 (rfl : byteOfWord w 7 = _)
  exact congrArg (fun v => some (v, rest)) (join.trans (field_whole w))

theorem wordOfBytes_of_short {bs : List Byte} (short : bs.length < 8) : wordOfBytes bs = none := by
  unfold wordOfBytes
  split
  · simp only [List.length_cons] at short
    omega
  · rfl

theorem getElem?_bytesOfWord (w : CommandWord) {k : Nat} (h : k < 8) : (bytesOfWord w)[k]? = some (byteOfWord w k) := by
  change ((List.range 8).map (byteOfWord w))[k]? = _
  rw [List.getElem?_map, List.getElem?_range h, Option.map_some]

theorem decodeBytes_of_error {w : CommandWord} {e : Illegal} (h : decode w = .error e) (rest : List Byte) :
    decodeBytes (bytesOfWord w ++ rest) = .error e := by
  simp only [decodeBytes, wordOfBytes_bytesOfWord, h]

theorem decodeBytes_of_ok {w : CommandWord} {i : Instr} (h : decode w = .ok i) (rest : List Byte) :
    decodeBytes (bytesOfWord w ++ rest) = .ok (i, rest) := by
  simp only [decodeBytes, wordOfBytes_bytesOfWord, h]

/-- Settles O5: the bytes join to the word, which is decoded; a short list holds none. -/
theorem wordsAreEightLittleEndianBytes : Obligations.WordsAreEightLittleEndianBytes := by
  refine ⟨fun w k => getElem?_bytesOfWord w, wordOfBytes_bytesOfWord, fun w e rest illegal => decodeBytes_of_error illegal rest,
    fun i rest wf => decodeBytes_of_ok (decodeOfEncode i wf) rest, fun bs short => ?_⟩
  simp only [decodeBytes, wordOfBytes_of_short short]

end Sys2Proof

namespace Sys2Proof.Machine

/-! ### Words that the HOST may not issue (rules R86, R87) -/

theorem issue_of_decode_error {w : CommandWord} {e : Illegal} (illegal : decode w = .error e) (s : State) :
    issue w s = .next (reply .illegal s) := by
  simp only [issue, illegal]

theorem issue_of_not_allowed {w : CommandWord} {i : Instr} {s : State} (decoded : decode w = .ok i)
    (refused : hostMayIssue s.cfg i = false) : issue w s = .next (reply .illegal s) := by
  simp only [issue, decoded, refused, cond_false]

/-- Settles O4: the illegal words are the complement of the four formats, and the HOST's step answers one with ILLEGAL. -/
theorem illegalWordsChangeNothing : Obligations.IllegalWordsChangeNothing := by
  refine ⟨decode_error_iff_fields, fun s w rest e turn idle next illegal => ?_⟩
  rw [step_of_host_issues turn idle next]
  exact issue_of_decode_error illegal _

/-- Settles O8: the parameter decides whether the HOST may issue a DISPATCH, and the frame of DISPATCH leaves `I` and `OCF`. -/
theorem hostDispatchNeedsInjection : Obligations.HostDispatchNeedsInjection := by
  refine ⟨fun s w rest u turn idle next decoded => ?_, fun u s t h => ?_⟩
  · rw [step_of_host_issues turn idle next]
    exact ⟨fun closed => issue_of_not_allowed decoded closed, fun injected => issue_of_decode_ok decoded injected⟩
  · obtain ⟨same, _⟩ := exec_dispatch_frame h
    rw [same]
    exact ⟨rfl, rfl⟩

/-! ### The assembler's check (rules R89, R90) -/

theorem checkCommand_attach {pin : Nat} (h : pin ≤ 255) : checkCommand (.attach pin) = .ok (.attach (BitVec.ofNat 8 pin)) :=
  if_neg (Nat.not_lt.mpr h)

theorem checkCommand_attachMinmax {pin minPW maxPW : Nat} (hpin : pin ≤ 255) (hmin : minPW ≤ 65535) (hmax : maxPW ≤ 65535) :
    checkCommand (.attachMinmax pin minPW maxPW) =
      .ok (.attachMinmax (BitVec.ofNat 8 pin) (BitVec.ofNat 16 minPW) (BitVec.ofNat 16 maxPW)) := by
  rw [checkCommand, if_neg (Nat.not_lt.mpr hpin), if_neg (Nat.not_lt.mpr hmin), if_neg (Nat.not_lt.mpr hmax)]

theorem checkCommand_writeAngle {pin : Nat} {angle : Int} (hpin : pin ≤ 255) (hangle : angleInRange angle = true) :
    checkCommand (.writeAngle pin angle) = .ok (.writeAngle (BitVec.ofNat 8 pin) angle) := by
  rw [checkCommand, if_neg (Nat.not_lt.mpr hpin), if_neg (by simp [hangle])]

/-- An angle out of the range of rule R83. -/
theorem angleInRange_of_outside {angle : Int} (h : angle < -32768 ∨ angle > 32767) : angleInRange angle = false := by
  rw [← Bool.not_eq_true, angleInRange_iff]
  omega

/-- The parsed line that writes a command. -/
def asmOf : Instr → AsmCommand
  | .attach pin => .attach pin.toNat
  | .attachMinmax pin minPW maxPW => .attachMinmax pin.toNat minPW.toNat maxPW.toNat
  | .writeAngle pin angle => .writeAngle pin.toNat angle
  | .dispatch .a => .dispatch ['A']
  | .dispatch .b => .dispatch ['B']

theorem checkCommand_asmOf {i : Instr} (wf : i.WellFormed) : checkCommand (asmOf i) = .ok i := by
  have byte (p : Byte) : p.toNat ≤ 255 := Nat.le_of_lt_succ p.isLt
  have half (x : Half) : x.toNat ≤ 65535 := Nat.le_of_lt_succ x.isLt
  cases i with
  | attach pin => rw [asmOf, checkCommand_attach (byte pin), BitVec.ofNat_toNat, BitVec.setWidth_eq]
  | attachMinmax pin minPW maxPW =>
    rw [asmOf, checkCommand_attachMinmax (byte pin) (half minPW) (half maxPW)]
    simp only [BitVec.ofNat_toNat, BitVec.setWidth_eq]
  | writeAngle pin angle => rw [asmOf, checkCommand_writeAngle (byte pin) wf, BitVec.ofNat_toNat, BitVec.setWidth_eq]
  | dispatch u => cases u <;> rfl

/-- Settles O60: the checks come in the order of the operands, every command has a line, and the two attach forms are
different commands, so their words differ. -/
theorem assemblerChecksOperands : Obligations.AssemblerChecksOperands := by
  refine ⟨fun pin minPW maxPW angle => ⟨fun hpin => ?_, fun hpin hmin => ?_, fun hpin hmin hmax => ?_, fun hpin hangle => ?_⟩,
    fun unit notA notB => ?_, fun i wf => ⟨asmOf i, checkCommand_asmOf wf⟩, fun pin hpin => ?_⟩
  · exact ⟨if_pos hpin, if_pos hpin, if_pos hpin⟩
  · rw [checkCommand, if_neg (Nat.not_lt.mpr hpin), if_pos hmin]
  · rw [checkCommand, if_neg (Nat.not_lt.mpr hpin), if_neg (Nat.not_lt.mpr hmin), if_pos hmax]
  · rw [checkCommand, if_neg (Nat.not_lt.mpr hpin), if_pos (by simp [angleInRange_of_outside hangle])]
  · rw [checkCommand, if_neg notA, if_neg notB]
  · refine ⟨checkCommand_attach hpin, checkCommand_attachMinmax hpin (by decide) (by decide), fun same => ?_⟩
    exact Instr.noConfusion (encode_inj rfl rfl same)

end Sys2Proof.Machine

/-! Proofs of the statements on attach (rules R100 to R104) and on the angle map's direction (rule R112). -/

namespace Sys2Proof.Machine

/-! ### Attach by its cases (rules R101, R102, R103) -/

theorem exec_attachMinmax (pin : Byte) (minPW maxPW : Half) (s : State) :
    exec (.attachMinmax pin minPW maxPW) s = .next (attachChannel pin minPW maxPW s) := rfl

theorem exec_attach (pin : Byte) (s : State) :
    exec (.attach pin) s = .next (attachChannel pin Config.defaultMinPW Config.defaultMaxPW s) := rfl

/-- The state after a successful attach for `u`: all its writes in one (rules R100, R102). -/
def claimSlot (u : CompareUnit) (pin : Byte) (minPW maxPW : Half) (s : State) : State :=
  { s with
    slot := s.slot.set u (some ⟨pin, minPW, maxPW, 0⟩)
    dir := s.dir.set u .output
    top := if s.slot.a = none ∧ s.slot.b = none then 20000 else s.top
    wgm := if s.slot.a = none ∧ s.slot.b = none then 0b1110#4 else s.wgm
    cs := if s.slot.a = none ∧ s.slot.b = none then 0b010#3 else s.cs
    iflag := if s.slot.a = none ∧ s.slot.b = none then true else s.iflag
    result := some .ok }

theorem attachChannel_of_unsupported {s : State} {pin : Byte} (unknown : unitOf s.cfg pin = none) (minPW maxPW : Half) :
    attachChannel pin minPW maxPW s = { s with result := some .ignoredBadPin } := by
  simp only [attachChannel, unknown]
  rfl

theorem attachChannel_of_filled {s : State} {pin : Byte} {u : CompareUnit} {c : Channel}
    (known : unitOf s.cfg pin = some u) (filled : s.slot.get u = some c) (minPW maxPW : Half) :
    attachChannel pin minPW maxPW s = { s with result := some .ignoredOccupied } := by
  simp only [attachChannel, known, filled]
  rfl

theorem bothEmpty_iff_slots (s : State) : bothEmpty s = true ↔ s.slot.a = none ∧ s.slot.b = none := by
  simp [bothEmpty]

theorem attachChannel_of_empty {s : State} {pin : Byte} {u : CompareUnit} (known : unitOf s.cfg pin = some u)
    (empty : s.slot.get u = none) (minPW maxPW : Half) :
    attachChannel pin minPW maxPW s = claimSlot u pin minPW maxPW s := by
  simp only [attachChannel, known, empty]
  cases first : bothEmpty s with
  | true =>
    simp only [claimSlot, if_pos ((bothEmpty_iff_slots s).mp first)]
    rfl
  | false =>
    have slots : ¬(s.slot.a = none ∧ s.slot.b = none) := by simp [← bothEmpty_iff_slots, first]
    simp only [claimSlot, if_neg slots]
    rfl

/-- Settles O19: both forms claim the slot, ATTACH with the default bounds. -/
theorem attachClaimsEmptySlot : Obligations.AttachClaimsEmptySlot := by
  intro s u pin minPW maxPW distinct supported empty
  have pinned : pin = pinOf s.cfg u := by cases u <;> exact supported
  have known : unitOf s.cfg pin = some u := pinned ▸ unitOf_pinOf distinct u
  rw [exec_attachMinmax, exec_attach, attachChannel_of_empty known empty, attachChannel_of_empty known empty]
  exact ⟨rfl, rfl⟩

/-- Settles O20: an unsupported pin has no unit, and a filled slot is not claimed. -/
theorem ignoredAttachChangesNothing : Obligations.IgnoredAttachChangesNothing := by
  refine fun s pin minPW maxPW => ⟨?_, ?_⟩
  · rintro ⟨notA, notB⟩
    have unknown := unitOf_unsupported notA notB
    rw [exec_attachMinmax, exec_attach, attachChannel_of_unsupported unknown, attachChannel_of_unsupported unknown]
    exact ⟨rfl, rfl⟩
  · rintro u distinct rfl occupied
    have known := unitOf_pinOf distinct u
    obtain ⟨c, filled⟩ := Option.ne_none_iff_exists'.mp occupied
    rw [exec_attachMinmax, exec_attach, attachChannel_of_filled known filled, attachChannel_of_filled known filled]
    exact ⟨rfl, rfl⟩

/-! ### What attach does not write (rule R104) -/

theorem attachChannel_keepsConnection (pin : Byte) (minPW maxPW : Half) (s : State) :
    (attachChannel pin minPW maxPW s).com = s.com ∧ (attachChannel pin minPW maxPW s).ocie = s.ocie ∧
    (attachChannel pin minPW maxPW s).ocr = s.ocr := by
  obtain ⟨_, e⟩ | ⟨_, _, _, _, e⟩ | ⟨_, _, _, _, e⟩ | ⟨_, _, _, _, e⟩ := attachChannel_cases pin minPW maxPW s <;>
    rw [e] <;> exact ⟨rfl, rfl, rfl⟩

/-- An attach that answers OK found the slot empty and filled it. -/
theorem attachChannel_ok_claims {s : State} {pin : Byte} {u : CompareUnit} {minPW maxPW : Half}
    (known : unitOf s.cfg pin = some u) (ok : (attachChannel pin minPW maxPW s).result = some .ok) :
    s.slot.get u = none ∧ (attachChannel pin minPW maxPW s).slot.get u ≠ none := by
  cases slot : s.slot.get u with
  | some c => simp [attachChannel_of_filled known slot] at ok
  | none => simp [attachChannel_of_empty known slot, claimSlot]

/-- An empty unit is not connected (rule R52 (1)). -/
theorem SpecInvariant.not_connected_of_empty {s : State} {u : CompareUnit} (h : SpecInvariant s)
    (empty : s.slot.get u = none) : connected u s = false := by
  simp [connected, (h.emptyUnit u empty).2]

/-- Settles O21: the claimed slot was empty, so its unit was not connected, and attach leaves COM and OCIE as they were. -/
theorem attachLeavesUnitDisconnected : Obligations.AttachLeavesUnitDisconnected := by
  intro s t pin minPW maxPW h
  obtain ⟨lo, hi, rfl⟩ := eq_attachChannel_of_exec h.symm
  obtain ⟨com, ocie, ocr⟩ := attachChannel_keepsConnection pin lo hi s
  refine ⟨com, ocie, ocr, ?_⟩
  rintro u inv rfl ok
  obtain ⟨empty, filled⟩ := attachChannel_ok_claims (unitOf_pinOf inv.pinsDistinct u) ok
  rw [channelState_eq_disconnected_iff, connected_congr (s := s) (by rw [ocie]) (by rw [com])]
  exact ⟨filled, inv.not_connected_of_empty empty⟩

/-- Settles O17: both forms are one attach, the word of ATTACH is assembled with `X` and `Y` zero, and the example is the first
claim after reset. -/
theorem attachIsAttachMinmaxWithDefaults : Obligations.AttachIsAttachMinmaxWithDefaults :=
  ⟨fun _ _ => rfl,
    fun pin => ⟨opField_wordOf opAttach pin 0 0, pField_wordOf opAttach pin 0 0, xField_wordOf opAttach pin 0 0,
      yField_wordOf opAttach pin 0 0, zField_wordOf opAttach pin 0 0⟩,
    ⟨_, (attachClaimsEmptySlot State.reset .a 9 0 0 (by decide) rfl rfl).2, rfl, rfl, rfl, rfl, rfl, rfl, rfl⟩⟩

/-! ### The angle map (rule R112) -/

theorem exactWidth_mono {a b : Int} {minPW maxPW : Half} (angles : a ≤ b) (rising : minPW.toNat ≤ maxPW.toNat) :
    exactWidth a minPW maxPW ≤ exactWidth b minPW maxPW := by
  have scaled := mul_le_mul_of_nonneg_right angles (sub_nonneg.mpr (Int.ofNat_le.mpr rising))
  exact add_le_add_right (Int.tdiv_le_tdiv (by decide) scaled) _

theorem exactWidth_anti {a b : Int} {minPW maxPW : Half} (angles : a ≤ b) (falling : maxPW.toNat ≤ minPW.toNat) :
    exactWidth b minPW maxPW ≤ exactWidth a minPW maxPW := by
  have scaled := mul_le_mul_of_nonpos_right angles (sub_nonpos.mpr (Int.ofNat_le.mpr falling))
  exact add_le_add_right (Int.tdiv_le_tdiv (by decide) scaled) _

@[simp] theorem exactWidth_zero (minPW maxPW : Half) : exactWidth 0 minPW maxPW = minPW.toNat := by
  simp [exactWidth]

@[simp] theorem exactWidth_180 (minPW maxPW : Half) : exactWidth 180 minPW maxPW = maxPW.toNat := by
  rw [exactWidth, Int.mul_tdiv_cancel_left _ (by decide), add_sub_cancel]

/-- The exact width lies between its values at the two ends (rule R112). -/
theorem exactWidth_within_bounds {a : Int} (low : 0 ≤ a) (high : a ≤ 180) (minPW maxPW : Half) :
    min minPW.toNat maxPW.toNat ≤ exactWidth a minPW maxPW ∧ exactWidth a minPW maxPW ≤ max minPW.toNat maxPW.toNat := by
  obtain rising | falling := Nat.le_total minPW.toNat maxPW.toNat
  · have fromLow := exactWidth_mono low rising
    have toHigh := exactWidth_mono high rising
    simp only [exactWidth_zero, exactWidth_180] at fromLow toHigh
    omega
  · have fromLow := exactWidth_anti low falling
    have toHigh := exactWidth_anti high falling
    simp only [exactWidth_zero, exactWidth_180] at fromLow toHigh
    omega

/-- No bits of the exact width are lost (rule R112). -/
theorem toNat_mapWidth {a : Int} (low : 0 ≤ a) (high : a ≤ 180) (minPW maxPW : Half) :
    ((mapWidth a minPW maxPW).toNat : Int) = exactWidth a minPW maxPW := by
  have within := exactWidth_within_bounds low high minPW maxPW
  have := minPW.isLt
  have := maxPW.isLt
  rw [mapWidth, BitVec.toNat_ofInt]
  omega

/-- Settles O28: the exact width is monotone in the angle, and the map loses none of its bits. -/
theorem mapIsMonotone : Obligations.MapIsMonotone := by
  intro a b minPW maxPW low angles high
  have widthA := toNat_mapWidth low (angles.trans high) minPW maxPW
  have widthB := toNat_mapWidth (low.trans angles) high minPW maxPW
  refine ⟨fun rising => ?_, fun falling => ?_⟩ <;> rw [← Int.ofNat_le, widthA, widthB]
  · exact exactWidth_mono angles rising
  · exact exactWidth_anti angles falling

end Sys2Proof.Machine

/-! Proofs of the statements on the angle write (rules R110 to R114). -/

namespace Sys2Proof.Machine

/-! ### The clamp and the map (rules R111, R112) -/

theorem clampAngle_eq (angle : Int) : clampAngle angle = if angle < 0 then 0 else if angle > 180 then 180 else angle := rfl

theorem clampAngle_of_below {angle : Int} (below : angle < 0) : clampAngle angle = 0 := if_pos below

theorem clampAngle_of_above {angle : Int} (above : angle > 180) : clampAngle angle = 180 :=
  (if_neg (Int.not_lt.mpr (le_of_lt (lt_trans (by decide) above)))).trans (if_pos above)

theorem clampAngle_of_within {angle : Int} (low : 0 ≤ angle) (high : angle ≤ 180) : clampAngle angle = angle :=
  (if_neg (Int.not_lt.mpr low)).trans (if_neg (Int.not_lt.mpr high))

theorem clampAngle_within (angle : Int) : 0 ≤ clampAngle angle ∧ clampAngle angle ≤ 180 := by
  rw [clampAngle_eq]
  split_ifs <;> omega

theorem clampAngle_idem (angle : Int) : clampAngle (clampAngle angle) = clampAngle angle :=
  clampAngle_of_within (clampAngle_within angle).1 (clampAngle_within angle).2

/-- WRITE_ANGLE sees its angle through the clamp alone. -/
theorem widthOf_clampAngle (c : Channel) (angle : Int) : widthOf c (clampAngle angle) = widthOf c angle := by
  rw [widthOf, widthOf, clampAngle_idem]

theorem exec_writeAngle_clampAngle (pin : Byte) (angle : Int) (s : State) :
    exec (.writeAngle pin angle) s = exec (.writeAngle pin (clampAngle angle)) s := by
  simp only [exec, execWriteAngle, widthOf_clampAngle]

/-- Settles O26: the clamp on each side of its range and within it, and it does nothing to an angle it has clamped. -/
theorem anglesAreClamped : Obligations.AnglesAreClamped := fun angle =>
  ⟨clampAngle_of_below, clampAngle_of_above, clampAngle_of_within, clampAngle_idem angle,
    fun pin s => exec_writeAngle_clampAngle pin angle s⟩

@[simp] theorem mapWidth_zero (minPW maxPW : Half) : mapWidth 0 minPW maxPW = minPW := by
  simp [mapWidth]

@[simp] theorem mapWidth_180 (minPW maxPW : Half) : mapWidth 180 minPW maxPW = maxPW := by
  simp [mapWidth]

/-- Settles O27: the exact width stays within the bounds, so the map loses none of its bits. -/
theorem mapIsExactWithinBounds : Obligations.MapIsExactWithinBounds := by
  intro a minPW maxPW low high
  have noLoss := toNat_mapWidth low high minPW maxPW
  have within := exactWidth_within_bounds low high minPW maxPW
  rw [← noLoss] at within
  exact ⟨noLoss, mod_cast within.1, mod_cast within.2, mapWidth_zero minPW maxPW, mapWidth_180 minPW maxPW⟩

/-! ### WRITE_ANGLE by its cases (rule R110) -/

theorem exec_writeAngle_of_unsupported {s : State} {pin : Byte} (unknown : unitOf s.cfg pin = none) (angle : Int) :
    exec (.writeAngle pin angle) s = .next { s with result := some .ignoredBadPin } := by
  simp only [exec, execWriteAngle, unknown]
  rfl

theorem exec_writeAngle_of_empty {s : State} {pin : Byte} {u : CompareUnit} (known : unitOf s.cfg pin = some u)
    (empty : s.slot.get u = none) (angle : Int) :
    exec (.writeAngle pin angle) s = .next { s with result := some .ignoredNotAttached } := by
  simp only [exec, execWriteAngle, known, empty]
  rfl

theorem exec_writeAngle_of_filled {s : State} {pin : Byte} {u : CompareUnit} {c : Channel}
    (known : unitOf s.cfg pin = some u) (filled : s.slot.get u = some c) (angle : Int) :
    exec (.writeAngle pin angle) s = .next (beginWrite u (widthOf c angle) s) := by
  simp only [exec, execWriteAngle, known, filled]

/-- Settles O25: an unsupported pin has no unit, and an empty slot has no channel to write. -/
theorem ignoredWriteChangesNothing : Obligations.IgnoredWriteChangesNothing := by
  refine fun s pin angle => ⟨?_, ?_⟩
  · rintro ⟨notA, notB⟩
    exact exec_writeAngle_of_unsupported (unitOf_unsupported notA notB) angle
  · rintro u distinct rfl empty
    exact exec_writeAngle_of_empty (unitOf_pinOf distinct u) empty angle

/-! ### The first half, whole (rules R110, R120) -/

/-- Only a connect makes the mark (log 15). -/
theorem beginWrite_levelOpen (u : CompareUnit) (w : Half) (s : State) :
    (beginWrite u w s).levelOpen = if connected u s = true then s.levelOpen else s.levelOpen.set u true := by
  unfold beginWrite
  cases h : connected u s <;> cases k : s.cfg.writeResetsWindow <;> simp [connected_enterCritical, h, k]

theorem beginWrite_slot_of_filled {s : State} {u : CompareUnit} {c : Channel} (filled : s.slot.get u = some c) (w : Half) :
    (beginWrite u w s).slot =
      if s.cfg.writeResetsWindow = true then s.slot.set u (some { c with pulseCount := 0 }) else s.slot := by
  simp [beginWrite_slot, filled, Bool.cond_eq_ite]

/-- Settles O23: the first half, field by field. -/
theorem writeAngleConnectsUnit : Obligations.WriteAngleConnectsUnit := by
  intro s u c angle distinct filled
  rw [exec_writeAngle_of_filled (unitOf_pinOf distinct u) filled]
  refine congrArg _ ?_
  ext1 <;> simp [beginWrite_com, beginWrite_ocie, beginWrite_ocf, beginWrite_levelOpen, beginWrite_slot_of_filled filled,
    Bool.cond_eq_ite, Config.comConnected, widthOf, clampAngle_eq]

/-! ### Both halves (rules R50 (c), R110, R114) -/

theorem connected_beginWrite (u : CompareUnit) (w : Half) (s : State) : connected u (beginWrite u w s) = true := by
  simp [connected, beginWrite_com, beginWrite_ocie]

theorem connected_finishWrite (u : CompareUnit) (f : Inflight) (s : State) :
    connected u (finishWrite f s) = connected u s := rfl

theorem connected_takeTurn (u : CompareUnit) (s : State) : connected u (takeTurn s) = connected u s := rfl

theorem nextTurn_of_cons {s : State} {turn : Turn} {more : List Turn} (turns : s.turns = turn :: more) :
    nextTurn s = turn := by
  rw [nextTurn, turns]

/-- The HOST's step that issues a WRITE_ANGLE of a registered channel. -/
theorem step_of_host_begins {s : State} {u : CompareUnit} {c : Channel} {w : CommandWord} {rest : List CommandWord}
    {angle : Int} (turn : nextTurn s = .host) (idle : s.inflight = none) (next : s.commands = w :: rest)
    (distinct : s.cfg.pinA ≠ s.cfg.pinB) (filled : s.slot.get u = some c)
    (decoded : decode w = .ok (.writeAngle (pinOf s.cfg u) angle)) :
    step s = .next (beginWrite u (widthOf c angle) { takeTurn s with commands := rest }) := by
  rw [step_of_host_issues turn idle next, issue_of_decode_ok decoded rfl]
  exact exec_writeAngle_of_filled (s := { takeTurn s with commands := rest }) (unitOf_pinOf distinct u) filled angle

/-- The HOST's step that ends the WRITE_ANGLE in flight. -/
theorem step_of_host_finishes {s : State} {f : Inflight} (turn : nextTurn s = .host) (writing : s.inflight = some f) :
    step s = .next (finishWrite f (takeTurn s)) :=
  (step_of_turn turn).trans (hostStep_of_inflight (s := takeTurn s) writing)

/-- Settles O24: the first turn begins the write and leaves it in flight, so the second ends it. -/
theorem writeAngleCompletesInTwoHostTurns : Obligations.WriteAngleCompletesInTwoHostTurns := by
  intro s u c w rest angle more distinct filled idle turns next decoded
  have begins := step_of_host_begins (nextTurn_of_cons turns) idle next distinct filled decoded
  have turns₁ : (beginWrite u (widthOf c angle) { takeTurn s with commands := rest }).turns = .host :: more := by
    simp [turns]
  have finishes := step_of_host_finishes (nextTurn_of_cons turns₁) (beginWrite_inflight u _ _)
  refine ⟨_, _, begins, beginWrite_iflag u _ _, beginWrite_ocr u _ _, beginWrite_result u _ _, finishes, ?_,
    ?_, rfl, rfl, rfl, ?_, ?_⟩
  · rw [connected_finishWrite, connected_takeTurn, connected_beginWrite]
  · simp
  · simp
  · simp [turns]

/-- A connected unit's mode and enable stand as CONNECT would write them. -/
theorem set_com_ocie_of_connected {s : State} {u : CompareUnit} (conn : connected u s = true) :
    s.com.set u Config.comConnected = s.com ∧ s.ocie.set u true = s.ocie := by
  obtain ⟨enable, mode⟩ := (connected_iff u s).mp conn
  rw [← enable, ← mode]
  exact ⟨PerUnit.set_get _ u, PerUnit.set_get _ u⟩

/-- Settles O29: a connected unit is not connected again, so the first half writes `I` and perhaps the count alone, and the
second the compare value. -/
theorem connectedWriteOnlyMovesCompareValue : Obligations.ConnectedWriteOnlyMovesCompareValue := by
  intro s u c angle distinct filled idle conn
  obtain ⟨sameCom, sameOcie⟩ := set_com_ocie_of_connected conn
  refine ⟨_, _, exec_writeAngle_of_filled (unitOf_pinOf distinct u) filled angle, beginWrite_inflight u _ s, ?_⟩
  ext1 <;> simp [beginWrite_com, beginWrite_ocie, beginWrite_ocf, beginWrite_levelOpen, beginWrite_slot_of_filled filled,
    sameCom, sameOcie, conn, idle, Bool.cond_eq_ite]

end Sys2Proof.Machine

/-! Proofs of the statements on CONNECT and DISCONNECT and on the pulse of a connected unit (rules R121 to R123). -/

namespace Sys2Proof.Machine

/-! ### Pins are high only inside a pulse (rules R123, R157) -/

theorem externalReset_pinHighOnlyInPulse (s : State) : PinHighOnlyInPulse (externalReset s) := by
  intro u high
  simp at high

/-- While the flag of a unit is pending, its pin is low. -/
theorem PinHighOnlyInPulse.low_of_pending {s : State} {u : CompareUnit} (pulse : PinHighOnlyInPulse s)
    (pending : s.ocf.get u = true) : s.level.get u = false := by
  by_contra high
  obtain ⟨_, clear⟩ := pulse u (by simpa using high)
  exact nomatch pending.symm.trans clear

/-- A connected unit is one with `COM = 0b10`, since `OCIE` follows `COM` (rule R52 (2)). -/
theorem Inv.connected_iff_com {s : State} (h : Inv s) (u : CompareUnit) :
    connected u s = true ↔ s.com.get u = Config.comConnected :=
  (connected_iff u s).trans (and_iff_right_of_imp (h.enableIffCom u).mpr)

theorem connected_tick (u : CompareUnit) (s : State) : connected u (tick s) = connected u s :=
  connected_congr (by rw [tick_ocie]) (by rw [tick_com])

/-- The latency hold: a period start finds no enabled event pending (rule R157). -/
theorem ocf_of_tick_starts {s : State} {u : CompareUnit} (strict : s.cfg.strictLatency = true)
    (enabled : tickEnabled s = true) (start : wouldStart s = true) (enable : s.ocie.get u = true) :
    s.ocf.get u = false := by
  by_contra pending
  have deliverable := (anyDeliverable_iff s).mpr ⟨u, by simpa using pending, enable⟩
  have held : heldByLatency s = true := by simp [heldByLatency, strict, start, deliverable]
  simp [tickEnabled, held] at enabled

/-- After a tick a connected unit's pin is high where the tick is no match, and is a period start or found the pin high. -/
theorem tick_level_of_connected {u : CompareUnit} {s : State} (com : s.com.get u = Config.comConnected) :
    (tick s).level.get u = true ↔
      wouldMatch u s = false ∧ (wouldStart s = true ∨ s.level.get u = true) := by
  rw [tick_level_get, com, beq_self_eq_true, cond_true]
  cases wouldMatch u s <;> cases wouldStart s <;> simp

/-- A tick raises a pin at a period start alone, where the latency hold leaves no flag of a connected unit pending. -/
theorem tick_pinHighOnlyInPulse {s : State} (h : Inv s) (strict : s.cfg.strictLatency = true)
    (enabled : tickEnabled s = true) (pulse : PinHighOnlyInPulse s) : PinHighOnlyInPulse (tick s) := by
  intro u high
  rw [connected_tick, tick_ocf_get]
  by_cases com : s.com.get u = Config.comConnected
  · have conn := (h.connected_iff_com u).mpr com
    obtain ⟨noMatch, start | wasHigh⟩ := (tick_level_of_connected com).mp high
    · have clear := ocf_of_tick_starts strict enabled start ((connected_iff u s).mp conn).1
      exact ⟨conn, by rw [clear, noMatch, Bool.false_or]⟩
    · exact ⟨conn, by rw [(pulse u wasHigh).2, noMatch, Bool.false_or]⟩
  · rw [tick_level_of_disconnected com] at high
    exact absurd ((h.connected_iff_com u).mp (pulse u high).1) com

theorem get_set_false_of_clear {p : PerUnit Bool} {v : CompareUnit} (u : CompareUnit) (clear : p.get v = false) :
    (p.set u false).get v = false := by
  rw [PerUnit.get_set, clear, ite_self]

theorem ocfAfterEvent_clear {s : State} {v : CompareUnit} (u : CompareUnit) (clear : s.ocf.get v = false) :
    (ocfAfterEvent u s).get v = false := by
  unfold ocfAfterEvent
  cases nextTurn s == .interruptUnit
  · exact clear
  · exact get_set_false_of_clear u clear

theorem beginWrite_clear {s : State} {v : CompareUnit} (u : CompareUnit) (w : Half) (clear : s.ocf.get v = false) :
    (beginWrite u w s).ocf.get v = false := by
  rw [beginWrite_ocf]
  cases !connected u s && s.cfg.connectClearsPending
  · exact clear
  · exact get_set_false_of_clear u clear

/-- Only a tick moves a level or sets a pending flag (rules R40, R120, R150, R153). -/
theorem StepEffect.ticked_or_quiet {s t : State} (e : StepEffect s t) (noReset : nextTurn s ≠ .reset) :
    (tickEnabled s = true ∧ t = tick (takeTurn s)) ∨
    (t.level = s.level ∧ ∀ u, s.ocf.get u = false → t.ocf.get u = false) := by
  cases e with
  | reset turn => exact absurd turn noReset
  | ticked _ enabled => exact .inl ⟨enabled, rfl⟩
  | begun u c angle rest _ _ =>
    exact .inr ⟨by simp, fun _ clear => beginWrite_clear (s := { takeTurn s with commands := rest }) u _ clear⟩
  | dropped u _ _ _ _ => exact .inr ⟨rfl, fun _ clear => get_set_false_of_clear u clear⟩
  | counted u _ _ _ _ _ _ | disconnected u _ _ _ _ _ _ => exact .inr ⟨rfl, fun _ clear => ocfAfterEvent_clear u clear⟩
  | idle | finished | claimedFirst | claimed => exact .inr ⟨rfl, fun _ clear => clear⟩

/-- An event that is not injected is one whose flag was pending (rules R143, R153). -/
theorem EventOf.pending {u : CompareUnit} {s : State} (event : EventOf u s) (notInjected : ¬ Issues (.dispatch u) s) :
    s.ocf.get u = true := by
  obtain ⟨_, enabled, rfl⟩ := event.resolve_right notInjected
  have pending := deliverUnit_deliverable (Bool.and_eq_true_iff.mp enabled).2
  exact (Bool.and_eq_true_iff.mp pending).1

/-- Without injections, a connected unit with no match pending stays connected (rules R123, R132). -/
theorem StepEffect.stays_connected {s t : State} (e : StepEffect s t) (noReset : nextTurn s ≠ .reset)
    (noInjection : s.cfg.injectDispatch = false) {u : CompareUnit} (conn : connected u s = true)
    (clear : s.ocf.get u = false) : connected u t = true := by
  obtain same | ⟨conn', _⟩ | ⟨_, event, _⟩ := e.connected_cases noReset u
  · exact same.trans conn
  · exact conn'
  · have notInjected : ¬ Issues (.dispatch u) s := fun issued => nomatch noInjection.symm.trans issued.allowed
    exact nomatch clear.symm.trans (event.pending notInjected)

/-- Settles O53: a reset lowers the pins, a tick raises one at a period start only, and every other step leaves the level,
the connection and the clear flag of a unit inside its pulse. -/
theorem pinHighOnlyInPulseIsKept : Obligations.PinHighOnlyInPulseIsKept := by
  refine ⟨externalReset_pinHighOnlyInPulse, fun s t h strict noInjection pulse stepped => ?_⟩
  by_cases turn : nextTurn s = .reset
  · obtain rfl := Host.Outcome.next.inj ((step_of_reset turn).symm.trans stepped)
    exact externalReset_pinHighOnlyInPulse (takeTurn s)
  · have e := stepEffect_of_step stepped
    obtain ⟨enabled, rfl⟩ | ⟨level, noFlag⟩ := e.ticked_or_quiet turn
    · exact tick_pinHighOnlyInPulse (takeTurn_inv h) strict enabled pulse
    · intro u high
      obtain ⟨conn, clear⟩ := pulse u (level ▸ high)
      exact ⟨e.stays_connected turn noInjection conn clear, noFlag u clear⟩

/-- Settles O54: the delivered event's flag was pending, so the pin was low, and no delivery moves a level or a direction. -/
theorem autoDisconnectLeavesPinLow : Obligations.AutoDisconnectLeavesPinLow := by
  intro s t u h pulse turn conn stepped apart
  have e := stepEffect_of_step stepped
  have noReset : nextTurn s ≠ .reset := by simp [turn]
  obtain same | ⟨conn', _⟩ | ⟨_, event, _⟩ := e.connected_cases noReset u
  · exact nomatch apart.symm.trans (same.trans conn)
  · exact nomatch apart.symm.trans conn'
  have low := pulse.low_of_pending (event.pending fun issued => nomatch turn.symm.trans issued.turn)
  have output := h.connectedOutput u ((h.connected_iff_com u).mp conn)
  constructor
  · obtain ⟨timer, _⟩ | ⟨_, level⟩ := e.ticked_or_keeps noReset
    · exact nomatch turn.symm.trans timer
    · rw [level, low]
  · obtain ⟨_, claim⟩ | keeps := e.claims_or_keepsSetup noReset
    · exact nomatch turn.symm.trans claim.host
    · rw [keeps.dir, output]

/-! ### The waveform of a connected unit (rules R122, R150, R151) -/

/-- A tick that is no period start counts one up, without overflow. -/
theorem toNat_nextCount_of_ne_zero {s : State} (inside : nextCount s ≠ 0) : (nextCount s).toNat = s.cnt.toNat + 1 := by
  unfold nextCount at *
  cases wrap : wraps s with
  | true => simp [wrap] at inside
  | false =>
    rw [wrap, cond_false] at inside
    rw [cond_false]
    bv_omega

/-- The compare value in force changes at a period start alone. -/
theorem tick_ocrAct_of_inside {s : State} (inside : (tick s).cnt ≠ 0) (u : CompareUnit) :
    (tick s).ocrAct.get u = s.ocrAct.get u := by
  rw [tick_cnt] at inside
  rw [tick_ocrAct_get, comparedValue, wouldStart, beq_false_of_ne inside, Bool.false_and, cond_false]

theorem wouldMatch_eq_true_iff (u : CompareUnit) (s : State) :
    wouldMatch u s = true ↔ (tick s).cnt = (tick s).ocrAct.get u := by
  rw [tick_cnt, tick_ocrAct_get, wouldMatch, beq_iff_eq]

theorem wouldStart_eq_true_iff (s : State) : wouldStart s = true ↔ (tick s).cnt = 0 := by
  rw [tick_cnt, wouldStart, beq_iff_eq]

/-- The level after a tick, in terms of the state after it. -/
theorem tick_level_iff {u : CompareUnit} {s : State} (com : s.com.get u = Config.comConnected) :
    (tick s).level.get u = true ↔
      (tick s).cnt ≠ (tick s).ocrAct.get u ∧ ((tick s).cnt = 0 ∨ s.level.get u = true) := by
  rw [tick_level_of_connected com, ← Bool.not_eq_true, wouldMatch_eq_true_iff, wouldStart_eq_true_iff]

/-- A period start makes the pin high exactly if its compare value is above 0. -/
theorem waveformAt_tick_of_start {u : CompareUnit} {s : State} (com : s.com.get u = Config.comConnected)
    (start : (tick s).cnt = 0) : WaveformAt u (tick s) := by
  rw [WaveformAt, tick_level_iff com, and_iff_left (.inl start), start]
  bv_omega

/-- A tick inside the period counts one up against the same compare value. -/
theorem waveformAt_tick_of_inside {u : CompareUnit} {s : State} (com : s.com.get u = Config.comConnected)
    (inside : (tick s).cnt ≠ 0) (before : WaveformAt u s) : WaveformAt u (tick s) := by
  have count : (tick s).cnt.toNat = s.cnt.toNat + 1 := by
    rw [tick_cnt] at inside ⊢
    exact toNat_nextCount_of_ne_zero inside
  rw [WaveformAt] at before ⊢
  rw [tick_level_iff com, before, or_iff_right inside, tick_ocrAct_of_inside inside, ← BitVec.toNat_inj.ne, count]
  omega

/-- Settles O46: the waveform at a period start and inside the period. -/
theorem pinIsHighBelowCompareValue : Obligations.PinIsHighBelowCompareValue := by
  refine fun s u => ⟨fun com => ⟨fun isMatch => ?_, fun start noMatch => ?_, waveformAt_tick_of_start com,
    waveformAt_tick_of_inside com⟩, fun com => ?_⟩
  · exact Bool.eq_false_iff.mpr fun high => ((tick_level_iff com).mp high).1 isMatch
  · exact (tick_level_iff com).mpr ⟨noMatch, .inl start⟩
  · exact tick_level_of_disconnected (by rw [com]; decide)

/-! ### DISCONNECT (rule R121) -/

theorem disconnect_of_disconnected {u : CompareUnit} {s : State} (ocie : s.ocie.get u = false)
    (com : s.com.get u = Config.comDisconnected) : disconnect u s = s := by
  rw [disconnect, setOcie, setCom, ← ocie, ← com, PerUnit.set_get, PerUnit.set_get]

/-- Settles O31: DISCONNECT's two writes, and the two bytes that show them. -/
theorem disconnectClearsEnableAndMode : Obligations.DisconnectClearsEnableAndMode := by
  refine fun u s => ⟨rfl, disconnect_of_disconnected, fun modes enables => ?_⟩
  obtain ⟨_, _, _, _, _, _, ctrlA_b, imsk_b, _⟩ := connectionShowsInControlBytes s
  rw [ctrlA_b, imsk_b, modes, enables]
  decide

end Sys2Proof.Machine

/-! Proofs of the statements on the dispatcher and the handler (rules R130 to R135). -/

namespace Sys2Proof.Machine

/-! ### HANDLE below and at the fiftieth event (rule R132) -/

theorem handle_of_below {s : State} {u : CompareUnit} {c : Channel} (filled : s.slot.get u = some c)
    (below : c.pulseCount.toNat + 1 < 50) :
    handle u c s = { s with slot := s.slot.set u (some { c with pulseCount := c.pulseCount + 1 }) } := by
  have notLast : (c.pulseCount.toNat + 1 == Config.pulseRate) = false := beq_false_of_ne (Nat.ne_of_lt below)
  rw [handle, notLast, cond_false, setPulseCount, filled, Option.map_some]

/-- The count that reaches `PULSE_RATE` is overwritten by the 0. -/
theorem handle_of_last {s : State} {u : CompareUnit} {c : Channel} (filled : s.slot.get u = some c)
    (last : c.pulseCount.toNat + 1 = 50) :
    handle u c s = { disconnect u s with slot := s.slot.set u (some { c with pulseCount := 0 }) } := by
  have atRate : (c.pulseCount.toNat + 1 == Config.pulseRate) = true := beq_iff_eq.mpr last
  rw [handle, atRate, cond_true]
  ext1 <;> simp [filled]

/-- The increment does not overflow (rule R132 (a)). -/
theorem toNat_pulseCount_succ {n : Byte} (below : n.toNat + 1 < 50) : (n + 1).toNat = n.toNat + 1 :=
  BitVec.toNat_add_of_lt (below.trans (by decide))

/-- Settles O40: the count after the event is below `PULSE_RATE` or equal to it. -/
theorem handleCountsThenDisconnects : Obligations.HandleCountsThenDisconnects :=
  fun _ _ _ filled _ =>
    ⟨fun below => ⟨handle_of_below filled below, toNat_pulseCount_succ below⟩, handle_of_last filled⟩

/-! ### DISPATCH by its cases (rule R130) -/

theorem exec_dispatch_of_empty {s : State} {u : CompareUnit} (empty : s.slot.get u = none) :
    exec (.dispatch u) s = .next { s with result := some .ignoredNoChannel } := by
  simp only [exec, execDispatch, empty]
  rfl

theorem exec_dispatch_of_filled {s : State} {u : CompareUnit} {c : Channel} (filled : s.slot.get u = some c) :
    exec (.dispatch u) s = .next (reply .ok (handle u c s)) := by
  simp only [exec, execDispatch, filled]

/-- Settles O38: the slot is all that the dispatcher looks at. -/
theorem dispatchWithoutChannelIsIgnored : Obligations.DispatchWithoutChannelIsIgnored :=
  fun _ _ => exec_dispatch_of_empty

/-- Settles O39: a count of 49 is the one that the event brings to `PULSE_RATE`. -/
theorem dispatchCountsOrDisconnects : Obligations.DispatchCountsOrDisconnects := by
  intro s u c filled inRange
  rw [exec_dispatch_of_filled filled]
  by_cases last : c.pulseCount = 49
  · have reached : c.pulseCount.toNat + 1 = 50 := by simp [last]
    rw [if_pos last, handle_of_last filled reached]
    rfl
  · have below : c.pulseCount.toNat + 1 < 50 := by bv_omega
    rw [if_neg last, handle_of_below filled below]
    rfl

/-! ### Several events (rules R134, R135) -/

theorem dispatchTimes_succ {s t : State} {u : CompareUnit} (first : exec (.dispatch u) s = .next t) (n : Nat) :
    dispatchTimes u (n + 1) s = dispatchTimes u n t := by
  rw [dispatchTimes, first]

/-- The state of unit `u` after its window has counted `k` events: still connected below `PULSE_RATE`, disconnected and
back at 0 when `k` reaches it. -/
def WindowAt (u : CompareUnit) (k : Nat) (d : Channel) (t : State) : Prop :=
  (k < 50 → connected u t = true ∧ d.pulseCount.toNat = k) ∧
  (k = 50 → connected u t = false ∧ t.com.get u = 0b00#2 ∧ t.ocie.get u = false ∧ d.pulseCount = 0)

theorem windowAt_of_connected {s : State} {u : CompareUnit} {c : Channel} (conn : connected u s = true)
    (inWindow : c.pulseCount.toNat < 50) : WindowAt u c.pulseCount.toNat c s :=
  ⟨fun _ => ⟨conn, rfl⟩, fun ended => absurd ended inWindow.ne⟩

theorem windowAt_of_disconnected {s : State} {u : CompareUnit} {c : Channel} (com : s.com.get u = 0b00#2)
    (ocie : s.ocie.get u = false) (zero : c.pulseCount = 0) : WindowAt u 50 c s :=
  ⟨fun inside => absurd inside (lt_irrefl 50), fun _ => ⟨by simp [connected, ocie], com, ocie, zero⟩⟩

/-- Events of a connected channel, from any count inside its window to the window's end at most. -/
theorem dispatchTimes_windowAt (u : CompareUnit) (n : Nat) : ∀ {s : State} {c : Channel},
    s.slot.get u = some c → connected u s = true → c.pulseCount.toNat < 50 → c.pulseCount.toNat + n ≤ 50 →
    ∃ t d, dispatchTimes u n s = .next t ∧ t.slot.get u = some d ∧ t.level = s.level ∧
      WindowAt u (c.pulseCount.toNat + n) d t := by
  induction n with
  | zero => exact fun {s c} filled conn inWindow _ => ⟨s, c, rfl, filled, rfl, windowAt_of_connected conn inWindow⟩
  | succ n ih =>
    intro s c filled conn inWindow upTo
    have first := exec_dispatch_of_filled filled
    obtain below | last : c.pulseCount.toNat + 1 < 50 ∨ c.pulseCount.toNat + 1 = 50 := by omega
    · rw [handle_of_below filled below] at first
      have count := toNat_pulseCount_succ below
      have shifted : c.pulseCount.toNat + (n + 1) = (c.pulseCount + 1).toNat + n := by omega
      rw [shifted] at upTo
      rw [dispatchTimes_succ first, shifted]
      exact ih (c := { c with pulseCount := c.pulseCount + 1 }) (PerUnit.get_set_self _ _ _) conn (count ▸ below) upTo
    · obtain rfl : n = 0 := by omega
      rw [handle_of_last filled last] at first
      rw [dispatchTimes_succ first, last]
      exact ⟨_, _, rfl, PerUnit.get_set_self _ _ _, rfl,
        windowAt_of_disconnected (PerUnit.get_set_self _ _ _) (PerUnit.get_set_self _ _ _) rfl⟩

/-- Settles O41: the window from a count of 0. -/
theorem fiftiethEventDisconnects : Obligations.FiftiethEventDisconnects := by
  intro s u c n filled zero conn upTo
  have count : c.pulseCount.toNat = 0 := by rw [zero]; rfl
  have window := dispatchTimes_windowAt u n filled conn (by omega) (by omega)
  rwa [count, Nat.zero_add] at window

end Sys2Proof.Machine

/-! Proofs of the statements on the steps, the timer and the interrupts (60_exceptions.md: rules R140 to R158, R179). -/

namespace Sys2Proof.Machine

/-! ### Result codes (rule R140) -/

/-- The code with a number; a number that no code has is taken as ILLEGAL's. -/
def resultOfByte (b : Byte) : ResultCode :=
  if b = 0x00 then .ok
  else if b = 0x01 then .ignoredBadPin
  else if b = 0x02 then .ignoredOccupied
  else if b = 0x03 then .ignoredNotAttached
  else if b = 0x04 then .ignoredNoChannel
  else .illegal

theorem resultOfByte_resultByte : Function.LeftInverse resultOfByte resultByte := by
  intro r
  cases r <;> rfl

/-- Settles O59: the numbers as `resultByte` gives them, each of which names its code. -/
theorem resultCodesHaveTheirNumbers : Obligations.ResultCodesHaveTheirNumbers :=
  ⟨rfl, rfl, rfl, rfl, rfl, rfl, resultOfByte_resultByte.injective⟩

/-! ### No step stops (rule R142) -/

theorem hostStep_next (s : State) : ∃ t, hostStep s = .next t := by
  obtain ⟨_, _, e⟩ | ⟨_, _, e⟩ | ⟨_, _, _, _, e⟩ | ⟨_, rest, i, _, _, _, _, e⟩ := hostStep_cases s <;> rw [e]
  · exact ⟨_, rfl⟩
  · exact ⟨_, rfl⟩
  · exact ⟨_, rfl⟩
  · exact exec_next i { s with commands := rest }

theorem interruptStep_next (s : State) : ∃ t, interruptStep s = .next t := by
  obtain ⟨_, e⟩ | ⟨_, _, _, e⟩ := interruptStep_cases s <;> exact ⟨_, e⟩

theorem turnStep_next (turn : Turn) (s : State) : ∃ t, turnStep turn s = .next t := by
  cases turn with
  | host => exact hostStep_next s
  | timer => exact ⟨timerStep s, rfl⟩
  | interruptUnit => exact interruptStep_next s
  | reset => exact ⟨externalReset s, rfl⟩

/-- Settles O9: no agent's step stops, since no arm of `exec` does. -/
theorem everyStepAnswersNext : Obligations.EveryStepAnswersNext :=
  fun s => turnStep_next (nextTurn s) (takeTurn s)

/-! ### When the TIMER ticks (rules R150, R155, R157) -/

theorem deliverable_iff (u : CompareUnit) (s : State) :
    deliverable u s = true ↔ s.ocf.get u = true ∧ s.ocie.get u = true := Bool.and_eq_true_iff

theorem heldByMatch_iff (s : State) :
    heldByMatch s = true ↔
      ∃ u, (tick s).cnt = (tick s).ocrAct.get u ∧ s.ocf.get u = true ∧ s.ocie.get u = true := by
  simp only [← wouldMatch_eq_true_iff, ← deliverable_iff, heldByMatch, Bool.or_eq_true, Bool.and_eq_true]
  constructor
  · rintro (held | held)
    · exact ⟨.a, held⟩
    · exact ⟨.b, held⟩
  · rintro ⟨_ | _, held⟩
    · exact .inl held
    · exact .inr held

theorem heldByLatency_iff (s : State) :
    heldByLatency s = true ↔
      s.cfg.strictLatency = true ∧ (tick s).cnt = 0 ∧ ∃ u, s.ocf.get u = true ∧ s.ocie.get u = true := by
  rw [heldByLatency, Bool.and_eq_true, Bool.and_eq_true, wouldStart_eq_true_iff, anyDeliverable_iff, and_assoc]

/-- TICK is enabled while the clock runs and neither hold is on. -/
theorem tickEnabled_iff (s : State) :
    tickEnabled s = true ↔ s.cs = Config.csDivideBy8 ∧ ¬heldByMatch s = true ∧ ¬heldByLatency s = true := by
  simp [tickEnabled, and_assoc]

/-- A turn of the TIMER is a TICK if that is enabled. -/
theorem step_of_timer {s : State} (turn : nextTurn s = .timer) :
    step s = .next (bif tickEnabled s then tick (takeTurn s) else takeTurn s) := step_of_turn turn

/-- Settles O11: the conditions are those of `tickEnabled`, and their failure. -/
theorem timerTurnTicksUnlessHeld : Obligations.TimerTurnTicksUnlessHeld := by
  intro s turn
  rw [step_of_timer turn]
  constructor
  · rintro ⟨running, noMatch, noStart⟩
    have enabled : tickEnabled s = true := by
      refine (tickEnabled_iff s).mpr ⟨running, fun held => ?_, fun held => ?_⟩
      · obtain ⟨u, isMatch, pending⟩ := (heldByMatch_iff s).mp held
        exact noMatch u isMatch pending
      · obtain ⟨strict, start, u, pending⟩ := (heldByLatency_iff s).mp held
        exact noStart strict start u pending
    rw [enabled, cond_true]
  · intro held
    have disabled : tickEnabled s = false := by
      rw [← Bool.not_eq_true, tickEnabled_iff]
      rintro ⟨running, noMatch, noStart⟩
      obtain stopped | isMatch | start := held
      · exact stopped running
      · exact noMatch ((heldByMatch_iff s).mpr isMatch)
      · exact noStart ((heldByLatency_iff s).mpr start)
    rw [disabled, cond_false]

/-! ### Delivery (rules R153, R154, R158) -/

theorem deliverEnabled_iff (s : State) :
    deliverEnabled s = true ↔ s.iflag = true ∧ ∃ u, s.ocf.get u = true ∧ s.ocie.get u = true := by
  rw [deliverEnabled, Bool.and_eq_true, anyDeliverable_iff]

theorem interruptStep_of_disabled {s : State} (disabled : deliverEnabled s = false) : interruptStep s = .next s := by
  rw [interruptStep, disabled, cond_false]

/-- DELIVER is the entry, the DISPATCH of the unit taken and the return. -/
theorem interruptStep_of_enabled {s t : State} {u : CompareUnit} (enabled : deliverEnabled s = true)
    (unit : deliverUnit s = u) (handled : exec (.dispatch u) (takeInterrupt u s) = .next t) :
    interruptStep s = .next (returnFromInterrupt (setResult s.result t)) := by
  simp only [interruptStep, enabled, cond_true, deliver, unit, handled]

/-- A pending enabled unit is taken, unless it is B and A is one too. -/
theorem deliverUnit_eq {s : State} {u : CompareUnit} (pending : deliverable u s = true)
    (first : u = .b → ¬deliverable .a s = true) : deliverUnit s = u := by
  cases u with
  | a => rw [deliverUnit, pending, cond_true]
  | b => rw [deliverUnit, Bool.eq_false_iff.mpr (first rfl), cond_false]

/-- Settles O12: the delivered DISPATCH is that of rule R132, between entry and return. -/
theorem deliveryCountsEvent : Obligations.DeliveryCountsEvent := by
  intro s u c turn unmasked flag enable first filled inRange
  have enabled : deliverEnabled (takeTurn s) = true := (deliverEnabled_iff s).mpr ⟨unmasked, u, flag, enable⟩
  have unit : deliverUnit (takeTurn s) = u :=
    deliverUnit_eq ((deliverable_iff u s).mpr ⟨flag, enable⟩) fun isB => mt (deliverable_iff .a s).mp (first isB)
  have handled := dispatchCountsOrDisconnects (takeInterrupt u (takeTurn s)) u c filled inRange
  rw [step_of_turn turn, turnStep, interruptStep_of_enabled enabled unit handled]
  split <;> (refine congrArg _ ?_; ext1 <;> simp [unmasked])

/-- Settles O13: a disabled DELIVER is no step, and an enabled one takes a unit with `OCIE` set and leaves the other. -/
theorem noDeliveryWhileMaskedOrDisabled : Obligations.NoDeliveryWhileMaskedOrDisabled := by
  refine ⟨fun s turn masked => ?_, fun s t u turn disabled stepped => ?_⟩
  · have off : deliverEnabled (takeTurn s) = false := by
      rw [← Bool.not_eq_true, deliverEnabled_iff]
      rintro ⟨unmasked, u, pending⟩
      exact masked.elim (fun zero => nomatch zero.symm.trans unmasked) (fun quiet => quiet u pending)
    rw [step_of_turn turn]
    exact interruptStep_of_disabled off
  · rw [step_of_turn turn] at stepped
    obtain ⟨_, e⟩ | ⟨t', enabled, handled, e⟩ := interruptStep_cases (takeTurn s) <;>
      obtain rfl := Host.Outcome.next.inj (e.symm.trans stepped)
    · exact ⟨rfl, rfl, rfl, rfl⟩
    · have pending := deliverUnit_deliverable (Bool.and_eq_true_iff.mp enabled).2
      have other : u ≠ deliverUnit (takeTurn s) := by
        intro same
        rw [← same] at pending
        exact nomatch disabled.symm.trans ((deliverable_iff u s).mp pending).2
      obtain ⟨frame, others⟩ := exec_dispatch_frame handled
      obtain ⟨slot, com, ocie⟩ := others u other
      refine ⟨slot, ?_, com, ocie⟩
      rw [frame]
      exact PerUnit.get_set_ne _ _ other

/-! ### Events of the two units (rule R158, 93_implementation_defined.md X23) -/

/-- Two states in which `u` has the same record, mode and enable. -/
structure SameChannel (u : CompareUnit) (s t : State) : Prop where
  slot : t.slot.get u = s.slot.get u
  com : t.com.get u = s.com.get u
  ocie : t.ocie.get u = s.ocie.get u

theorem SameChannel.symm {u : CompareUnit} {s t : State} (h : SameChannel u s t) : SameChannel u t s :=
  ⟨h.slot.symm, h.com.symm, h.ocie.symm⟩

theorem SameChannel.trans {u : CompareUnit} {s t r : State} (h : SameChannel u s t) (h' : SameChannel u t r) :
    SameChannel u s r := ⟨h'.slot.trans h.slot, h'.com.trans h.com, h'.ocie.trans h.ocie⟩

/-- What a handled event makes of its unit depends on that unit alone. -/
theorem handle_sameChannel {u : CompareUnit} {s s' : State} (c : Channel) (same : SameChannel u s s') :
    SameChannel u (handle u c s) (handle u c s') := by
  obtain ⟨slot, com, ocie⟩ := same
  unfold handle
  cases c.pulseCount.toNat + 1 == Config.pulseRate <;> constructor <;> simp [slot, com, ocie]

theorem dispatch_sameChannel {u : CompareUnit} {s s' t t' : State} (same : SameChannel u s s')
    (h : exec (.dispatch u) s = .next t) (h' : exec (.dispatch u) s' = .next t') : SameChannel u t t' := by
  cases filled : s.slot.get u with
  | none =>
    obtain rfl := Host.Outcome.next.inj ((exec_dispatch_of_empty filled).symm.trans h)
    obtain rfl := Host.Outcome.next.inj ((exec_dispatch_of_empty (same.slot.trans filled)).symm.trans h')
    exact ⟨same.slot, same.com, same.ocie⟩
  | some c =>
    obtain rfl := Host.Outcome.next.inj ((exec_dispatch_of_filled filled).symm.trans h)
    obtain rfl := Host.Outcome.next.inj ((exec_dispatch_of_filled (same.slot.trans filled)).symm.trans h')
    obtain ⟨slot, com, ocie⟩ := handle_sameChannel c same
    exact ⟨slot, com, ocie⟩

/-- An event of one unit leaves the other's channel. -/
theorem dispatch_sameChannel_of_ne {u v : CompareUnit} {s t : State} (h : exec (.dispatch u) s = .next t) (other : v ≠ u) :
    SameChannel v s t := by
  obtain ⟨_, others⟩ := exec_dispatch_frame h
  obtain ⟨slot, com, ocie⟩ := others v other
  exact ⟨slot, com, ocie⟩

/-- An event of `u` does the same to `u` before an event of the other unit and after it. -/
theorem dispatches_sameChannel {u v : CompareUnit} {s s₁ s₂ t₁ t₂ : State} (other : u ≠ v)
    (first : exec (.dispatch u) s = .next s₁) (second : exec (.dispatch v) s₁ = .next t₁)
    (first' : exec (.dispatch v) s = .next s₂) (second' : exec (.dispatch u) s₂ = .next t₂) : SameChannel u t₁ t₂ :=
  (dispatch_sameChannel_of_ne second other).symm.trans
    (dispatch_sameChannel (dispatch_sameChannel_of_ne first' other) first second')

/-- The channels are all that DISPATCH changes of the spec's fields. -/
theorem specPart_of_dispatch {u : CompareUnit} {s t : State} (h : exec (.dispatch u) s = .next t) :
    specPart t = { specPart s with slot := t.slot, com := t.com, ocie := t.ocie } := by
  rw [(exec_dispatch_frame h).1]
  rfl

/-- Settles O42: both orders end with the same two channels. -/
theorem eventsOfTwoUnitsCommute : Obligations.EventsOfTwoUnitsCommute := by
  intro s
  obtain ⟨s₁, a⟩ := exec_next (.dispatch .a) s
  obtain ⟨t₁, ab⟩ := exec_next (.dispatch .b) s₁
  obtain ⟨s₂, b⟩ := exec_next (.dispatch .b) s
  obtain ⟨t₂, ba⟩ := exec_next (.dispatch .a) s₂
  refine ⟨s₁, s₂, t₁, t₂, a, ab, b, ba, ?_⟩
  have same : ∀ u, SameChannel u t₁ t₂
    | .a => dispatches_sameChannel (by decide) a ab b ba
    | .b => (dispatches_sameChannel (by decide) b ba a ab).symm
  have slot : t₁.slot = t₂.slot := PerUnit.ext_get fun u => (same u).slot.symm
  have com : t₁.com = t₂.com := PerUnit.ext_get fun u => (same u).com.symm
  have ocie : t₁.ocie = t₂.ocie := PerUnit.ext_get fun u => (same u).ocie.symm
  rw [specPart_of_dispatch ab, specPart_of_dispatch a, specPart_of_dispatch ba, specPart_of_dispatch b, slot, com, ocie]

/-! ### A tick, field by field (rule R150) -/

/-- The count returns to zero with the tick after the last count of the period. -/
theorem wraps_iff (s : State) : wraps s = true ↔ s.cnt.toNat + 1 = periodTicks s := by
  unfold wraps periodTicks
  cases s.cfg.topInclusive <;> simp [← BitVec.toNat_inj]

/-- What a tick leaves: all but the count, the compare values in force, the flags, the levels and their mark. -/
theorem tick_frame (s : State) :
    tick s = { s with
      cnt := (tick s).cnt
      ocrAct := (tick s).ocrAct
      ocf := (tick s).ocf
      level := (tick s).level
      levelOpen := (tick s).levelOpen } := by
  ext1 <;> simp

/-- Settles O44: the equations of a tick, with the match and the period start read off the state after it. -/
theorem tickEffects : Obligations.TickEffects := by
  refine fun s => ⟨?_, fun u => ⟨?_, ?_, ?_, ?_⟩, tick_frame s⟩
  · rw [tick_cnt, nextCount, wraps, Bool.cond_eq_ite]
    cases s.cfg.topInclusive <;> simp
  · simp only [tick_ocrAct_get, comparedValue, Bool.cond_eq_ite, Bool.and_eq_true, wouldStart_eq_true_iff, beq_iff_eq]
  · rw [tick_ocf_get, wouldMatch, tick_cnt, tick_ocrAct_get]
  · simp only [tick_level_get, Bool.cond_eq_ite, beq_iff_eq, wouldMatch_eq_true_iff, wouldStart_eq_true_iff,
      Config.comConnected]
  · rw [tick_levelOpen_get, Bool.cond_eq_ite]
    simp only [wouldStart_eq_true_iff]

/-! ### The period (rule R150) -/

theorem nextCount_of_last {s : State} (last : s.cnt.toNat + 1 = periodTicks s) : nextCount s = 0 := by
  rw [nextCount, (wraps_iff s).mpr last, cond_true]

/-- The period is at most `2 ^ 16` ticks, so a count inside it does not overflow. -/
theorem toNat_nextCount_of_inside {s : State} (inside : s.cnt.toNat + 1 < periodTicks s) :
    (nextCount s).toNat = s.cnt.toNat + 1 := by
  have goesOn : wraps s = false := by
    rw [← Bool.not_eq_true, wraps_iff]
    exact inside.ne
  have bound : s.cnt.toNat + 1 < 2 ^ 16 := by
    have top := s.top.isLt
    have bit := Bool.toNat_le s.cfg.topInclusive
    unfold periodTicks at inside
    omega
  rw [nextCount, goesOn, cond_false]
  exact BitVec.toNat_add_of_lt bound

theorem nextCount_lt_periodTicks {s : State} (inPeriod : s.cnt.toNat < periodTicks s) :
    (nextCount s).toNat < periodTicks s := by
  obtain last | inside : s.cnt.toNat + 1 = periodTicks s ∨ s.cnt.toNat + 1 < periodTicks s := by omega
  · rw [nextCount_of_last last]
    exact Nat.zero_lt_of_lt inPeriod
  · rwa [toNat_nextCount_of_inside inside]

theorem periodTicks_tick (s : State) : periodTicks (tick s) = periodTicks s := by
  rw [periodTicks, periodTicks, tick_top, tick_cfg]

/-- The last of several ticks. -/
theorem ticks_succ (n : Nat) : ∀ s : State, ticks (n + 1) s = tick (ticks n s) := by
  induction n with
  | zero => exact fun _ => rfl
  | succ n ih => exact fun s => ih (tick s)

theorem periodTicks_ticks (n : Nat) (s : State) : periodTicks (ticks n s) = periodTicks s := by
  induction n with
  | zero => rfl
  | succ n ih => rw [ticks_succ, periodTicks_tick, ih]

/-- From a count of 0 the ticks inside one period are counted up. -/
theorem toNat_cnt_ticks {s : State} (zero : s.cnt = 0) (n : Nat) (inPeriod : n < periodTicks s) :
    (ticks n s).cnt.toNat = n := by
  induction n with
  | zero => simp [ticks, zero]
  | succ n ih =>
    have before := ih (Nat.lt_of_succ_lt inPeriod)
    rw [ticks_succ, tick_cnt, toNat_nextCount_of_inside (by rwa [before, periodTicks_ticks]), before]

/-- Settles O45: the tick after the last count of the period returns to 0. -/
theorem periodIsTopTicks : Obligations.PeriodIsTopTicks := by
  intro s zero running
  refine ⟨toNat_cnt_ticks zero, ?_⟩
  obtain ⟨last, period⟩ : ∃ n, periodTicks s = n + 1 := Nat.exists_eq_add_one.mpr (Nat.add_pos_left running _)
  change (ticks (periodTicks s) s).cnt = 0
  rw [period, ticks_succ, tick_cnt]
  refine nextCount_of_last ?_
  rw [toNat_cnt_ticks zero last (by omega), periodTicks_ticks, period]

/-! ### Compare values beyond the period (rules R151, R179 (a)) -/

/-- Counts inside the period never reach the compare values of `u`, written or in force. -/
structure OutOfReach (u : CompareUnit) (s : State) : Prop where
  countInPeriod : s.cnt.toNat < periodTicks s
  written : periodTicks s ≤ (s.ocr.get u).toNat
  inForce : periodTicks s ≤ (s.ocrAct.get u).toNat

theorem BeyondPeriod.outOfReach {u : CompareUnit} {s : State} (h : BeyondPeriod u s) : OutOfReach u s :=
  ⟨h.countInPeriod, h.written, h.inForce⟩

theorem OutOfReach.takeTurn {u : CompareUnit} {s : State} (h : OutOfReach u s) : OutOfReach u (takeTurn s) :=
  ⟨h.countInPeriod, h.written, h.inForce⟩

theorem OutOfReach.le_comparedValue {u : CompareUnit} {s : State} (h : OutOfReach u s) :
    periodTicks s ≤ (comparedValue u s).toNat := by
  unfold comparedValue
  cases wouldStart s && s.cfg.ocrUpdate == .atBottom
  · exact h.inForce
  · exact h.written

theorem OutOfReach.no_match {u : CompareUnit} {s : State} (h : OutOfReach u s) : wouldMatch u s = false := by
  refine beq_false_of_ne fun reached => ?_
  have count := nextCount_lt_periodTicks h.countInPeriod
  rw [reached] at count
  exact absurd h.le_comparedValue (Nat.not_le.mpr count)

theorem tick_outOfReach {u : CompareUnit} {s : State} (h : OutOfReach u s) : OutOfReach u (tick s) where
  countInPeriod := by
    rw [tick_cnt, periodTicks_tick]
    exact nextCount_lt_periodTicks h.countInPeriod
  written := by
    rw [periodTicks_tick, tick_ocr]
    exact h.written
  inForce := by
    rw [periodTicks_tick, tick_ocrAct_get]
    exact h.le_comparedValue

theorem ticks_outOfReach {u : CompareUnit} {s : State} (h : OutOfReach u s) (n : Nat) : OutOfReach u (ticks n s) := by
  induction n with
  | zero => exact h
  | succ n ih =>
    rw [ticks_succ]
    exact tick_outOfReach ih

theorem OutOfReach.tick_ocf {u : CompareUnit} {s : State} (h : OutOfReach u s) : (tick s).ocf.get u = s.ocf.get u := by
  rw [tick_ocf_get, h.no_match, Bool.or_false]

/-- Ticks set no flag of a unit whose compare values are out of reach, and touch no mode or slot. -/
theorem OutOfReach.ticks_keep {u : CompareUnit} {s : State} (h : OutOfReach u s) (n : Nat) :
    (ticks n s).ocf.get u = s.ocf.get u ∧ (ticks n s).com.get u = s.com.get u ∧
      (ticks n s).slot.get u = s.slot.get u := by
  induction n with
  | zero => exact ⟨rfl, rfl, rfl⟩
  | succ n ih => rwa [ticks_succ, (ticks_outOfReach h n).tick_ocf, tick_com, tick_slot]

/-- With no match to lower it, a high pin stays high, and a period start raises a connected unit's. -/
theorem OutOfReach.tick_level {u : CompareUnit} {s : State} (h : OutOfReach u s)
    (raised : s.level.get u = true ∨ (connected u s = true ∧ (tick s).cnt = 0)) : (tick s).level.get u = true := by
  by_cases com : s.com.get u = Config.comConnected
  · refine (tick_level_of_connected com).mpr ⟨h.no_match, ?_⟩
    obtain high | ⟨_, start⟩ := raised
    · exact .inr high
    · exact .inl ((wouldStart_eq_true_iff s).mpr start)
  · obtain high | ⟨conn, _⟩ := raised
    · rwa [tick_level_of_disconnected com]
    · exact absurd ((connected_iff u s).mp conn).2 com

/-- A stored width that the counter does not reach. -/
theorem finishWrite_outOfReach {u : CompareUnit} {s : State} {f : Inflight} (h : OutOfReach u s)
    (stored : f.unit = u → periodTicks s ≤ f.width.toNat) : OutOfReach u (finishWrite f s) := by
  have store (p : PerUnit Half) (reach : periodTicks s ≤ (p.get u).toNat) :
      periodTicks s ≤ ((p.set f.unit f.width).get u).toNat := by
    rw [PerUnit.get_set]
    split
    · next same => exact stored same.symm
    · exact reach
  refine ⟨h.countInPeriod, store s.ocr h.written, ?_⟩
  rw [finishWrite_ocrAct]
  cases s.cfg.ocrUpdate == .immediate
  · exact h.inForce
  · exact store s.ocrAct h.inForce

/-- No step changes the parameters (rule R10). -/
theorem StepEffect.cfg_eq {s t : State} (e : StepEffect s t) : t.cfg = s.cfg := by
  cases e <;> simp

/-- The period stays once a slot is filled (rule R152). -/
theorem StepEffect.periodTicks_eq {s t : State} (e : StepEffect s t) (noReset : nextTurn s ≠ .reset)
    (configured : bothEmpty s = false) : periodTicks t = periodTicks s := by
  have top : t.top = s.top := by
    obtain ⟨u, claim⟩ | keeps := e.claims_or_keepsSetup noReset
    · exact (claim.later configured).2.1
    · exact keeps.timer.2.1
  rw [periodTicks, periodTicks, top, e.cfg_eq]

/-- Only a tick and the second half of a WRITE_ANGLE write the count or a compare value (rules R32, R37, R110, R150). -/
theorem StepEffect.counter_cases {s t : State} (e : StepEffect s t) (noReset : nextTurn s ≠ .reset) :
    t = tick (takeTurn s) ∨
    (∃ f, nextTurn s = .host ∧ s.inflight = some f ∧ t = finishWrite f (takeTurn s)) ∨
    (t.cnt = s.cnt ∧ t.ocr = s.ocr ∧ t.ocrAct = s.ocrAct) := by
  cases e with
  | reset turn => exact absurd turn noReset
  | ticked => exact .inl rfl
  | finished f turn writing => exact .inr (.inl ⟨f, turn, writing, rfl⟩)
  | idle | begun | claimedFirst | claimed | dropped | counted | disconnected =>
    exact .inr (.inr ⟨by simp, by simp, by simp⟩)

/-- Compare values out of reach stay so, unless a shorter width is stored. -/
theorem StepEffect.outOfReach {u : CompareUnit} {s t : State} (e : StepEffect s t) (noReset : nextTurn s ≠ .reset)
    (configured : bothEmpty s = false) (h : OutOfReach u s)
    (stored : nextTurn s = .host → ∀ f, s.inflight = some f → f.unit = u → periodTicks s ≤ f.width.toNat) :
    OutOfReach u t := by
  have period := e.periodTicks_eq noReset configured
  obtain rfl | ⟨f, turn, writing, rfl⟩ | ⟨cnt, ocr, ocrAct⟩ := e.counter_cases noReset
  · exact tick_outOfReach h.takeTurn
  · exact finishWrite_outOfReach h.takeTurn (stored turn f writing)
  · exact ⟨by rw [cnt, period]; exact h.countInPeriod, by rw [ocr, period]; exact h.written,
      by rw [ocrAct, period]; exact h.inForce⟩

/-- A step of a unit whose compare values are out of reach sets no flag of it. -/
theorem StepEffect.ocf_clear {u : CompareUnit} {s t : State} (e : StepEffect s t) (noReset : nextTurn s ≠ .reset)
    (h : OutOfReach u s) (clear : s.ocf.get u = false) : t.ocf.get u = false := by
  obtain ⟨_, rfl⟩ | ⟨_, quiet⟩ := e.ticked_or_quiet noReset
  · exact h.takeTurn.tick_ocf.trans clear
  · exact quiet u clear

/-- Its pin, once high, stays high, and a period start raises it. -/
theorem StepEffect.level_high {u : CompareUnit} {s t : State} (e : StepEffect s t) (noReset : nextTurn s ≠ .reset)
    (h : OutOfReach u s) (raised : s.level.get u = true ∨ (connected u s = true ∧ s.cnt ≠ 0 ∧ t.cnt = 0)) :
    t.level.get u = true := by
  obtain ⟨_, _, rfl⟩ | ⟨cnt, level⟩ := e.ticked_or_keeps noReset
  · exact h.takeTurn.tick_level (raised.imp_right fun ⟨conn, _, start⟩ => ⟨conn, start⟩)
  · obtain high | ⟨_, inside, start⟩ := raised
    · rw [level, high]
    · exact absurd (cnt.symm.trans start) inside

/-- With no event of it pending or injected, a connected unit stays connected (rule R132). -/
theorem StepEffect.connected_of_no_event {u : CompareUnit} {s t : State} (e : StepEffect s t)
    (noReset : nextTurn s ≠ .reset) (notInjected : ¬Issues (.dispatch u) s) (clear : s.ocf.get u = false)
    (conn : connected u s = true) : connected u t = true := by
  obtain same | ⟨conn', _⟩ | ⟨_, event, _⟩ := e.connected_cases noReset u
  · exact same.trans conn
  · exact conn'
  · exact nomatch clear.symm.trans (event.pending notInjected)

/-- Settles O47: the compare values stay out of reach, so no match sets a flag or lowers the pin, and without an event
nothing disconnects the unit. -/
theorem noMatchBeyondPeriod : Obligations.NoMatchBeyondPeriod := by
  refine ⟨fun s u n inPeriod written inForce => OutOfReach.ticks_keep ⟨inPeriod, written, inForce⟩ n, ?_⟩
  intro s t u beyond noReset host stepped
  have e := stepEffect_of_step stepped
  have reach := beyond.outOfReach
  obtain ⟨c, filled⟩ := Option.ne_none_iff_exists'.mp beyond.registered
  have reach' := e.outOfReach noReset (bothEmpty_of_filled filled) reach fun turn => (host turn).1
  have notInjected : ¬Issues (.dispatch u) s := fun issued => by
    obtain ⟨w, rest, next, decoded⟩ := issued.word
    exact (host issued.turn).2 issued.allowed issued.idle w rest next decoded
  refine ⟨?_, e.connected_of_no_event noReset notInjected beyond.noMatch, fun high => e.level_high noReset reach (.inl high),
    fun conn inside start => e.level_high noReset reach (.inr ⟨conn, inside, start⟩)⟩
  exact ⟨e.filled_of_filled noReset beyond.registered, reach'.countInPeriod, reach'.written, reach'.inForce,
    e.ocf_clear noReset reach beyond.noMatch⟩

/-! ### No deadlock (rule R156) -/

/-- A tick is held only by an enabled interrupt that is pending (rules R155, R157). -/
theorem anyDeliverable_of_held {s : State} (running : s.cs = Config.csDivideBy8) (held : tickEnabled s = false) :
    anyDeliverable s = true := by
  rw [anyDeliverable_iff]
  by_contra quiet
  refine Bool.eq_false_iff.mp held ((tickEnabled_iff s).mpr ⟨running, fun byMatch => ?_, fun byLatency => ?_⟩)
  · obtain ⟨u, _, pending⟩ := (heldByMatch_iff s).mp byMatch
    exact quiet ⟨u, pending⟩
  · exact quiet ((heldByLatency_iff s).mp byLatency).2.2

/-- Settles O56: a held tick has an interrupt pending, which is masked only while a WRITE_ANGLE is in flight. -/
theorem someAgentIsEnabled : Obligations.SomeAgentIsEnabled := by
  intro s reached filled
  have inv := reached.inv
  obtain ⟨_, running, _⟩ := (configured_iff s).mp (inv.configuredIff.mp filled)
  cases held : tickEnabled s with
  | true => exact .inl rfl
  | false =>
    refine .inr ?_
    have pending := anyDeliverable_of_held running held
    cases idle : s.inflight with
    | some f => exact .inr rfl
    | none =>
      have unmasked : s.iflag = true := (inv.flagSet idle).resolve_right (by simp [filled])
      exact .inl (by rw [deliverEnabled, unmasked, pending, Bool.and_self])

/-! ### Fair runs (rule R156) -/

/-- The turns that end a WRITE_ANGLE in flight: its second half, or a reset. -/
def EndsWrite (turn : Turn) : Prop := turn = .host ∨ turn = .reset

/-- A delivery leaves the WRITE_ANGLE in flight, as every step of the TIMER does. -/
theorem inflight_of_other_turn {turn : Turn} {s t : State} (goesOn : ¬EndsWrite turn) (h : turnStep turn s = .next t) :
    t.inflight = s.inflight := by
  obtain ⟨host, _⟩ | ⟨_, rfl⟩ | ⟨_, delivered⟩ | ⟨reset, _⟩ := turnStep_cases h
  · exact absurd (.inl host) goesOn
  · unfold timerStep
    cases tickEnabled s
    · rfl
    · exact tick_inflight s
  · obtain ⟨_, e⟩ | ⟨t', _, handled, e⟩ := interruptStep_cases s <;>
      obtain rfl := Host.Outcome.next.inj (e.symm.trans delivered)
    · rfl
    · rw [(exec_dispatch_frame handled).1]
      rfl
  · exact absurd (.inr reset) goesOn

/-- The WRITE_ANGLE stays in flight up to the first turn that ends it. -/
theorem inflight_until_end {schedule : Nat → Turn} {run : Nat → State} {n : Nat} {f : Inflight}
    (scheduled : ScheduledRun schedule run) (writing : (run n).inflight = some f) (m : Nat) (later : n ≤ m)
    (goesOn : ∀ k, n ≤ k → k < m → ¬EndsWrite (schedule k)) : (run m).inflight = some f := by
  induction m, later using Nat.le_induction with
  | base => exact writing
  | succ m later ih =>
    have before := ih fun k from_n below => goesOn k from_n (Nat.lt_succ_of_lt below)
    exact (inflight_of_other_turn (goesOn m later (Nat.lt_succ_self m)) (scheduled m)).trans before

/-- In a fair run a turn comes that ends it, since the second half stays enabled until then. -/
theorem exists_endsWrite {schedule : Nat → Turn} {run : Nat → State} {n : Nat} {f : Inflight}
    (scheduled : ScheduledRun schedule run) (fair : WeaklyFair schedule run) (writing : (run n).inflight = some f) :
    ∃ k, n ≤ k ∧ EndsWrite (schedule k) := by
  by_contra never
  have goesOn : ∀ k, n ≤ k → ¬EndsWrite (schedule k) := fun k later ends => never ⟨k, later, ends⟩
  obtain ⟨k, later, host⟩ := fair.secondHalf n fun m later =>
    Option.isSome_iff_exists.mpr ⟨f, inflight_until_end scheduled writing m later fun k from_n _ => goesOn k from_n⟩
  exact goesOn k later (.inl host)

/-- What the turn that ends a WRITE_ANGLE leaves: the width stored, or the reset state. -/
theorem turnStep_of_endsWrite {turn : Turn} {s t : State} {f : Inflight} (ends : EndsWrite turn)
    (writing : s.inflight = some f) (h : turnStep turn s = .next t) :
    (turn = .host ∧ t = finishWrite f s) ∨ (turn = .reset ∧ t = externalReset s) := by
  obtain rfl | rfl := ends
  · exact .inl ⟨rfl, (Host.Outcome.next.inj ((hostStep_of_inflight writing).symm.trans h)).symm⟩
  · exact .inr ⟨rfl, (Host.Outcome.next.inj h).symm⟩

/-- Settles O57: the first turn from `n` on that ends the WRITE_ANGLE is its second half or a reset. -/
theorem fairRunsCompleteTheWriteInFlight : Obligations.FairRunsCompleteTheWriteInFlight := by
  classical
  intro schedule run n f scheduled fair writing
  have ended := exists_endsWrite scheduled fair writing
  obtain ⟨later, ends⟩ := Nat.find_spec ended
  have inFlight (k : Nat) (from_n : n ≤ k) (upTo : k ≤ Nat.find ended) : (run k).inflight = some f :=
    inflight_until_end scheduled writing k from_n fun j from_n' below stops =>
      Nat.find_min ended (below.trans_le upTo) ⟨from_n', stops⟩
  refine ⟨Nat.find ended + 1, Nat.lt_succ_of_le later, fun k from_n below => inFlight k from_n (Nat.le_of_lt_succ below), ?_⟩
  rw [Nat.add_sub_cancel]
  obtain ⟨host, e⟩ | ⟨reset, e⟩ := turnStep_of_endsWrite (s := takeTurn (run (Nat.find ended))) ends
    (inFlight _ later le_rfl) (scheduled (Nat.find ended)) <;> rw [e]
  · exact ⟨rfl, .inr ⟨host, PerUnit.get_set_self _ _ _, rfl, rfl⟩⟩
  · exact ⟨rfl, .inl reset⟩

end Sys2Proof.Machine

/-! Proofs of the statements on the reset state, the time before the first attach, stale matches and observation points
(70_reset_and_hazards.md: rules R171, R172, R176, R184). -/

namespace Sys2Proof.Machine

/-! ### Nothing moves in the reset state (rule R171) -/

theorem tickEnabled_of_stopped {s : State} (stopped : s.cs = 0b000#3) : tickEnabled s = false :=
  Bool.eq_false_iff.mpr fun enabled => absurd (stopped.symm.trans (tickEnabled_running enabled)) (by decide)

theorem timerStep_of_stopped {s : State} (stopped : s.cs = 0b000#3) : timerStep s = s := by
  rw [timerStep, tickEnabled_of_stopped stopped, cond_false]

/-- With nothing in flight and no command left, the HOST does nothing. -/
theorem hostStep_of_commands_nil {s : State} (idle : s.inflight = none) (noCommand : s.commands = []) :
    hostStep s = .next s := by
  simp only [hostStep, idle, noCommand]

/-- Of the block, a reset keeps the parameters alone. -/
theorem specPart_externalReset_congr {s start : State} (params : s.cfg = start.cfg) :
    specPart (externalReset s) = specPart (externalReset start) := by
  simp only [specPart, externalReset, params]

/-- A turn that issues no command leaves a block that is as after a reset: nothing is in flight, the timer stands and
interrupts are masked. -/
theorem turnStep_of_nothing_issued {turn : Turn} {start s t : State} (fresh : specPart s = specPart (externalReset start))
    (quiet : issuedBy turn s = []) (h : turnStep turn s = .next t) :
    specPart t = specPart s ∧ t.commands = s.commands := by
  have idle : s.inflight = none := congrArg State.inflight fresh
  have stopped : s.cs = 0b000#3 := congrArg State.cs fresh
  have masked : s.iflag = false := congrArg State.iflag fresh
  have params : (specPart s).cfg = (specPart (externalReset start)).cfg := congrArg State.cfg fresh
  obtain ⟨rfl, h⟩ | ⟨rfl, rfl⟩ | ⟨rfl, h⟩ | ⟨rfl, rfl⟩ := turnStep_cases h
  · have noCommand : s.commands = [] := by simpa [issuedBy, idle] using quiet
    obtain rfl := Host.Outcome.next.inj ((hostStep_of_commands_nil idle noCommand).symm.trans h)
    exact ⟨rfl, rfl⟩
  · rw [timerStep_of_stopped stopped]
    exact ⟨rfl, rfl⟩
  · have disabled : deliverEnabled s = false := by rw [deliverEnabled, masked, Bool.false_and]
    obtain rfl := Host.Outcome.next.inj ((interruptStep_of_disabled disabled).symm.trans h)
    exact ⟨rfl, rfl⟩
  · exact ⟨(specPart_externalReset_congr params).trans fresh.symm, rfl⟩

/-- Settles O15: with no command waiting, no turn issues one. -/
theorem nothingMovesUntilACommand : Obligations.NothingMovesUntilACommand := by
  intro s t fresh noCommand stepped
  have quiet : issuedBy (nextTurn s) (takeTurn s) = [] := by
    cases nextTurn s <;> simp [issuedBy, takeTurn, noCommand]
  obtain ⟨same, commands⟩ := turnStep_of_nothing_issued (s := takeTurn s) fresh quiet stepped
  exact ⟨same, commands.trans noCommand⟩

/-! ### `I` before the first attach (rule R172) -/

/-- Two outcomes that differ in `I` at most, and not even in `I` once a slot is filled. -/
def AgreeButFlag (o o' : Host.Outcome State Fault Refusal) : Prop :=
  ∃ t t', o = .next t ∧ o' = .next t' ∧ { t' with iflag := t.iflag } = t ∧ (bothEmpty t = false → t' = t)

theorem AgreeButFlag.refl (t : State) : AgreeButFlag (.next t) (.next t) := ⟨t, t, rfl, rfl, rfl, fun _ => rfl⟩

theorem AgreeButFlag.of_bothEmpty {t : State} (b : Bool) (empty : bothEmpty t = true) :
    AgreeButFlag (.next t) (.next { t with iflag := b }) :=
  ⟨t, _, rfl, rfl, rfl, fun filled => nomatch filled.symm.trans empty⟩

/-- The first attach sets `I`, whatever it was; an ignored one fills no slot. -/
theorem attachChannel_agreeButFlag {s : State} (b : Bool) (empty : bothEmpty s = true) (pin : Byte) (minPW maxPW : Half) :
    AgreeButFlag (.next (attachChannel pin minPW maxPW s))
      (.next (attachChannel pin minPW maxPW { s with iflag := b })) := by
  cases known : unitOf s.cfg pin with
  | none =>
    rw [attachChannel_of_unsupported known, attachChannel_of_unsupported (s := { s with iflag := b }) known]
    exact .of_bothEmpty b empty
  | some u =>
    have free := (bothEmpty_iff s).mp empty u
    have same : claimSlot u pin minPW maxPW { s with iflag := b } = claimSlot u pin minPW maxPW s := by
      simp only [claimSlot, if_pos ((bothEmpty_iff_slots s).mp empty)]
    rw [attachChannel_of_empty known free, attachChannel_of_empty (s := { s with iflag := b }) known free, same]
    exact .refl _

/-- Every command but an attach is ignored while both slots are empty. -/
theorem exec_agreeButFlag {s : State} (b : Bool) (empty : bothEmpty s = true) (i : Instr) :
    AgreeButFlag (exec i s) (exec i { s with iflag := b }) := by
  cases i with
  | attach pin => exact attachChannel_agreeButFlag b empty pin _ _
  | attachMinmax pin minPW maxPW => exact attachChannel_agreeButFlag b empty pin minPW maxPW
  | writeAngle pin angle =>
    cases known : unitOf s.cfg pin with
    | none =>
      rw [exec_writeAngle_of_unsupported known, exec_writeAngle_of_unsupported (s := { s with iflag := b }) known]
      exact .of_bothEmpty b empty
    | some u =>
      have free := (bothEmpty_iff s).mp empty u
      rw [exec_writeAngle_of_empty known free, exec_writeAngle_of_empty (s := { s with iflag := b }) known free]
      exact .of_bothEmpty b empty
  | dispatch u =>
    have free := (bothEmpty_iff s).mp empty u
    rw [exec_dispatch_of_empty free, exec_dispatch_of_empty (s := { s with iflag := b }) free]
    exact .of_bothEmpty b empty

/-- Whether a word is issued at all does not depend on `I`. -/
theorem issue_agreeButFlag {s : State} (b : Bool) (empty : bothEmpty s = true) (w : CommandWord) :
    AgreeButFlag (issue w s) (issue w { s with iflag := b }) := by
  unfold issue
  cases decode w with
  | error e => exact .of_bothEmpty b empty
  | ok i =>
    dsimp only
    cases hostMayIssue s.cfg i with
    | false => exact .of_bothEmpty b empty
    | true => exact exec_agreeButFlag b empty i

theorem hostStep_agreeButFlag {s : State} (b : Bool) (empty : bothEmpty s = true) (idle : s.inflight = none) :
    AgreeButFlag (hostStep s) (hostStep { s with iflag := b }) := by
  by_cases noCommand : s.commands = []
  · rw [hostStep_of_commands_nil idle noCommand, hostStep_of_commands_nil (s := { s with iflag := b }) idle noCommand]
    exact .of_bothEmpty b empty
  · obtain ⟨w, rest, next⟩ := List.exists_cons_of_ne_nil noCommand
    rw [hostStep_of_commands_cons idle next, hostStep_of_commands_cons (s := { s with iflag := b }) idle next]
    exact issue_agreeButFlag (s := { s with commands := rest }) b empty w

/-- The unit of an empty slot is disconnected, so before the first attach no WRITE_ANGLE is in flight. -/
theorem Inv.idle_of_bothEmpty {s : State} (h : Inv s) (empty : bothEmpty s = true) : s.inflight = none := by
  refine Option.eq_none_iff_forall_ne_some.mpr fun f writing => ?_
  have off := h.toSpecInvariant.not_connected_of_empty ((bothEmpty_iff s).mp empty f.unit)
  exact nomatch off.symm.trans (h.flight f writing).2

/-- Before the first attach no interrupt is enabled (rule R52 (1)). -/
theorem SpecInvariant.quiet_of_bothEmpty {s : State} (h : SpecInvariant s) (empty : bothEmpty s = true) :
    anyDeliverable s = false := by
  rw [← Bool.not_eq_true, anyDeliverable_iff]
  rintro ⟨u, _, enable⟩
  exact nomatch (h.emptyUnit u ((bothEmpty_iff s).mp empty u)).2.symm.trans enable

theorem interruptStep_of_quiet {s : State} (quiet : anyDeliverable s = false) : interruptStep s = .next s :=
  interruptStep_of_disabled (by rw [deliverEnabled, quiet, Bool.and_false])

/-- What each agent does before the first attach, with either value of `I`. -/
theorem turnStep_agreeButFlag {s : State} (turn : Turn) (b : Bool) (h : Inv s) (empty : bothEmpty s = true) :
    AgreeButFlag (turnStep turn s) (turnStep turn { s with iflag := b }) := by
  cases turn with
  | host => exact hostStep_agreeButFlag b empty (h.idle_of_bothEmpty empty)
  | timer =>
    obtain ⟨_, stopped, _, _⟩ := h.unconfigured empty
    rw [turnStep, turnStep, timerStep_of_stopped stopped, timerStep_of_stopped (s := { s with iflag := b }) stopped]
    exact .of_bothEmpty b empty
  | interruptUnit =>
    have quiet := h.toSpecInvariant.quiet_of_bothEmpty empty
    rw [turnStep, turnStep, interruptStep_of_quiet quiet, interruptStep_of_quiet (s := { s with iflag := b }) quiet]
    exact .of_bothEmpty b empty
  | reset => exact .refl _

/-- Settles O16: both states give the turn to the same agent, and no agent's step depends on `I`. -/
theorem flagBeforeFirstAttachIrrelevant : Obligations.FlagBeforeFirstAttachIrrelevant := by
  intro s t t' b h empty stepped stepped'
  obtain ⟨r, r', e, e', differ, filled⟩ := turnStep_agreeButFlag (s := takeTurn s) (nextTurn s) b (takeTurn_inv h) empty
  obtain rfl := Host.Outcome.next.inj (e.symm.trans stepped)
  obtain rfl := Host.Outcome.next.inj (e'.symm.trans stepped')
  exact ⟨differ, filled⟩

/-! ### A match pending before the connect (rule R176) -/

/-- A delivery clears the flag of the unit taken, ends unmasked and leaves the other unit's channel. -/
theorem interruptStep_frame {s t : State} (enabled : deliverEnabled s = true) (h : interruptStep s = .next t) :
    t.ocf = s.ocf.set (deliverUnit s) false ∧ t.iflag = true ∧ t.inflight = s.inflight ∧
    ∀ v, v ≠ deliverUnit s → SameChannel v s t := by
  obtain ⟨disabled, _⟩ | ⟨r, _, handled, e⟩ := interruptStep_cases s
  · exact nomatch disabled.symm.trans enabled
  · obtain rfl := Host.Outcome.next.inj (e.symm.trans h)
    have frame := (exec_dispatch_frame handled).1
    refine ⟨?_, rfl, ?_, fun v other => ?_⟩
    · rw [frame]; rfl
    · rw [frame]; rfl
    · obtain ⟨slot, com, ocie⟩ := dispatch_sameChannel_of_ne handled other
      exact ⟨slot, com, ocie⟩

/-- A pending enabled unit B behind a pending enabled unit A is the next to be delivered, and is left as it is. -/
theorem unitB_next_after_unitA {s t : State} (unmasked : s.iflag = true) (pendingA : deliverable .a s = true)
    (pendingB : deliverable .b s = true) (h : interruptStep s = .next t) :
    t.ocf.a = false ∧ SameChannel .b s t ∧ deliverEnabled t = true ∧ deliverUnit t = .b := by
  have unit : deliverUnit s = .a := deliverUnit_eq pendingA nofun
  have enabled : deliverEnabled s = true := (deliverEnabled_iff s).mpr ⟨unmasked, .a, (deliverable_iff .a s).mp pendingA⟩
  obtain ⟨flags, unmasked', _, others⟩ := interruptStep_frame enabled h
  rw [unit] at flags others
  have same := others .b (by decide)
  have clearA : t.ocf.a = false := by rw [flags]; rfl
  obtain ⟨flagB, enableB⟩ := (deliverable_iff .b s).mp pendingB
  have stillB : t.ocf.get .b = true ∧ t.ocie.get .b = true := by
    rw [flags, same.ocie]
    exact ⟨flagB, enableB⟩
  refine ⟨clearA, same, (deliverEnabled_iff t).mpr ⟨unmasked', .b, stillB⟩,
    deliverUnit_eq ((deliverable_iff .b t).mpr stillB) fun _ pending => ?_⟩
  exact nomatch clearA.symm.trans ((deliverable_iff .a t).mp pending).1

/-- The delivery to a connected unit: its flag is cleared and the event counted, and the fiftieth disconnects. -/
theorem step_delivers_connected {s : State} {u : CompareUnit} {c : Channel} (turn : nextTurn s = .interruptUnit)
    (unmasked : s.iflag = true) (flag : s.ocf.get u = true) (conn : connected u s = true)
    (first : u = .b → ¬(s.ocf.a = true ∧ s.ocie.a = true)) (filled : s.slot.get u = some c)
    (inRange : c.pulseCount.toNat ≤ 49) :
    ∃ t, step s = .next t ∧ t.ocf.get u = false ∧
      (c.pulseCount ≠ 49 → t.slot.get u = some { c with pulseCount := c.pulseCount + 1 } ∧ connected u t = true) ∧
      (c.pulseCount = 49 → t.slot.get u = some { c with pulseCount := 0 } ∧ connected u t = false) := by
  have stepped := deliveryCountsEvent s u c turn unmasked flag ((connected_iff u s).mp conn).1 first filled inRange
  by_cases last : c.pulseCount = 49
  · rw [if_pos last] at stepped
    exact ⟨_, stepped, by simp, fun below => absurd last below, fun _ => by simp [connected]⟩
  · rw [if_neg last] at stepped
    exact ⟨_, stepped, by simp, fun _ => ⟨by simp, conn⟩, fun fiftieth => absurd fiftieth last⟩

/-- The state after both halves of a WRITE_ANGLE that connects its unit and keeps the flags. -/
structure ConnectedByWrite (u : CompareUnit) (c : Channel) (s t : State) : Prop where
  unmasked : t.iflag = true
  flags : t.ocf = s.ocf
  enables : t.ocie = s.ocie.set u true
  connected : connected u t = true
  filled : t.slot.get u = some { c with pulseCount := if s.cfg.writeResetsWindow = true then 0 else c.pulseCount }

theorem finishWrite_beginWrite_connects {s : State} {u : CompareUnit} {c : Channel} (f : Inflight) (w : Half)
    (filled : s.slot.get u = some c) (kept : s.cfg.connectClearsPending = false) :
    ConnectedByWrite u c s (finishWrite f (beginWrite u w s)) where
  unmasked := rfl
  flags := by simp [beginWrite_ocf, kept]
  enables := by simp [beginWrite_ocie]
  connected := (connected_finishWrite u f _).trans (connected_beginWrite u w s)
  filled := by
    rw [finishWrite_slot, beginWrite_slot_of_filled filled]
    cases s.cfg.writeResetsWindow <;> simp [filled]

/-- Settles O30: the second half unmasks the interrupt that the first enabled; the delivery is that of rule R153. -/
theorem staleMatchIsDeliveredAtConnect : Obligations.StaleMatchIsDeliveredAtConnect := by
  intro s u c angle more distinct filled inRange off stale
  refine ⟨_, _, exec_writeAngle_of_filled (unitOf_pinOf distinct u) filled angle, beginWrite_inflight u _ s, ?_,
    fun clears => ?_, fun kept => ?_⟩
  · rw [deliverEnabled, beginWrite_iflag, Bool.false_and]
  · simp [beginWrite_ocf, off, clears]
  · have after := finishWrite_beginWrite_connects ⟨u, widthOf c angle⟩ (widthOf c angle) filled kept
    generalize finishWrite ⟨u, widthOf c angle⟩ (beginWrite u (widthOf c angle) s) = s₂ at after ⊢
    obtain ⟨unmasked, flags, enables, conn, filled₂⟩ := after
    have flag : s₂.ocf.get u = true := by rw [flags, stale]
    have enable : s₂.ocie.get u = true := by rw [enables, PerUnit.get_set_self]
    refine ⟨(deliverEnabled_iff s₂).mpr ⟨unmasked, u, flag, enable⟩, ?_⟩
    by_cases ahead : u = .b ∧ s.ocf.a = true ∧ s.ocie.a = true
    · obtain ⟨rfl, flagA, enableA⟩ := ahead
      have pendingA : deliverable .a s₂ = true := by
        rw [deliverable_iff, flags, enables]
        exact ⟨flagA, enableA⟩
      obtain ⟨t, stepped⟩ := interruptStep_next (takeTurn { s₂ with turns := .interruptUnit :: more })
      obtain ⟨clearA, same, next⟩ := unitB_next_after_unitA (s := takeTurn { s₂ with turns := .interruptUnit :: more })
        unmasked pendingA ((deliverable_iff .b s₂).mpr ⟨flag, enable⟩) stepped
      exact ⟨t, stepped, fun _ => ⟨clearA, same.slot, next⟩, fun alone => absurd ⟨rfl, flagA, enableA⟩ alone⟩
    · have first : u = .b → ¬(s₂.ocf.a = true ∧ s₂.ocie.a = true) := by
        rintro rfl
        rw [flags, enables]
        exact fun pendingA => ahead ⟨rfl, pendingA⟩
      have count_le : (if s.cfg.writeResetsWindow = true then 0 else c.pulseCount).toNat ≤ 49 := by
        split
        · exact Nat.zero_le _
        · exact inRange
      obtain ⟨t, stepped, counted⟩ := step_delivers_connected (s := { s₂ with turns := .interruptUnit :: more }) rfl
        unmasked flag conn first filled₂ count_le
      exact ⟨t, stepped, fun before => absurd before ahead, fun _ => counted⟩

/-! ### Observation points (rule R184) -/

/-- A turn keeps the invariants, whoever takes it. -/
theorem turnStep_inv {turn : Turn} {s t : State} (h : Inv s) (stepped : turnStep turn (takeTurn s) = .next t) : Inv t :=
  stepKeepsInvariants { s with turns := turn :: s.turns.tail } t (h.of_same rfl rfl rfl rfl rfl rfl rfl rfl rfl rfl rfl)
    stepped

theorem RunSinceReset.inv {start s : State} {commands : List CommandWord} {ticks : Nat}
    (pins : start.cfg.pinA ≠ start.cfg.pinB) (run : RunSinceReset start commands ticks s) : Inv s := by
  induction run with
  | reset => exact externalReset_inv pins
  | step turn commands ticks s u _ _ stepped ih => exact turnStep_inv ih stepped

/-- A turn that issues no command and takes no tick stays at the same list of commands and number of ticks. -/
theorem RunSinceReset.step_uncounted {start s t : State} {commands : List CommandWord} {ticks : Nat} {turn : Turn}
    (run : RunSinceReset start commands ticks s) (noReset : turn ≠ .reset) (noCommand : issuedBy turn s = [])
    (noTick : ticksBy turn s = 0) (stepped : turnStep turn (takeTurn s) = .next t) :
    RunSinceReset start commands ticks t := by
  simpa [noCommand, noTick] using run.step turn commands ticks s t noReset stepped

/-- The second half in flight can be taken. -/
theorem RunSinceReset.exists_idle {start s : State} {commands : List CommandWord} {ticks : Nat}
    (run : RunSinceReset start commands ticks s) :
    ∃ t, RunSinceReset start commands ticks t ∧ t.inflight = none := by
  cases writing : s.inflight with
  | none => exact ⟨s, run, writing⟩
  | some f =>
    have stepped : turnStep .host (takeTurn s) = .next (finishWrite f (takeTurn s)) := hostStep_of_inflight writing
    exact ⟨_, run.step_uncounted (by decide) (by simp [issuedBy, writing]) rfl stepped, rfl⟩

/-- How many match flags are set. -/
def pendingFlags (s : State) : Nat := s.ocf.a.toNat + s.ocf.b.toNat

theorem pendingFlags_lt_of_cleared {s t : State} {u : CompareUnit} (flag : s.ocf.get u = true)
    (cleared : t.ocf = s.ocf.set u false) : pendingFlags t < pendingFlags s := by
  cases u <;> simp_all [pendingFlags, PerUnit.set]

/-- With nothing in flight the enabled deliveries can be taken: each clears a flag. -/
theorem RunSinceReset.exists_observationPoint {start s : State} {commands : List CommandWord} {ticks : Nat}
    (pins : start.cfg.pinA ≠ start.cfg.pinB) (run : RunSinceReset start commands ticks s) (idle : s.inflight = none) :
    ∃ t, ObservationPoint start commands ticks t := by
  cases pending : anyDeliverable s with
  | false => exact ⟨s, run, by rw [settled, idle, pending]; rfl⟩
  | true =>
    have inv := run.inv pins
    have filled : ¬bothEmpty s = true := fun empty =>
      nomatch (inv.toSpecInvariant.quiet_of_bothEmpty empty).symm.trans pending
    have enabled : deliverEnabled (takeTurn s) = true :=
      Bool.and_eq_true_iff.mpr ⟨(inv.flagSet idle).resolve_right filled, pending⟩
    obtain ⟨t, stepped⟩ := interruptStep_next (takeTurn s)
    obtain ⟨cleared, _, flight, _⟩ := interruptStep_frame enabled stepped
    have fewer : pendingFlags t < pendingFlags s := pendingFlags_lt_of_cleared
      ((deliverable_iff _ s).mp (deliverUnit_deliverable pending)).1 cleared
    exact (run.step_uncounted (turn := .interruptUnit) (by decide) rfl rfl stepped).exists_observationPoint pins
      (flight.trans idle)
termination_by pendingFlags s

/-- A run with no command has not ticked and is as after the reset. -/
theorem RunSinceReset.of_no_commands {start s : State} {ticks : Nat} (run : RunSinceReset start [] ticks s) :
    ticks = 0 ∧ specPart s = specPart (externalReset start) := by
  generalize empty : ([] : List CommandWord) = commands at run
  induction run with
  | reset => exact ⟨rfl, rfl⟩
  | step turn commands ticks s t _ _ stepped ih =>
    obtain ⟨emptyBefore, quiet⟩ := List.append_eq_nil_iff.mp empty.symm
    obtain ⟨zero, fresh⟩ := ih emptyBefore.symm
    have stopped : s.cs = 0b000#3 := congrArg State.cs fresh
    have noTick : ticksBy turn s = 0 := by rw [ticksBy, tickEnabled_of_stopped stopped, Bool.and_false, cond_false]
    obtain ⟨same, _⟩ := turnStep_of_nothing_issued (s := takeTurn s) fresh quiet stepped
    exact ⟨by rw [zero, noTick], same.trans fresh⟩

/-- Once the timer is configured, a tick is held by an enabled pending interrupt alone. -/
theorem Inv.tickEnabled_of_quiet {s : State} (h : Inv s) (quiet : anyDeliverable s = false) (filled : bothEmpty s = false) :
    tickEnabled s = true := by
  obtain ⟨_, running, _⟩ := (configured_iff s).mp (h.configuredIff.mp filled)
  by_contra held
  exact nomatch quiet.symm.trans (anyDeliverable_of_held running (Bool.eq_false_iff.mpr held))

/-- Settles O58: a settled state of a run has the invariants and nothing to deliver, and the run to it takes the second half
in flight and then the deliveries. -/
theorem observationPointsAreSettled : Obligations.ObservationPointsAreSettled := by
  refine ⟨fun start commands ticks s pins point => ?_, fun start commands ticks s pins run => ?_, fun _ _ _ run =>
    run.of_no_commands⟩
  · have inv := point.reached.inv pins
    obtain ⟨_, quiet⟩ : s.inflight.isNone = true ∧ anyDeliverable s = false := by
      simpa [settled] using point.settled
    have noPending : ¬∃ u, s.ocf.get u = true ∧ s.ocie.get u = true := by rw [← anyDeliverable_iff, quiet]; decide
    exact ⟨inv.toSpecInvariant, by rw [deliverEnabled, quiet, Bool.and_false], fun u pending => noPending ⟨u, pending⟩,
      inv.tickEnabled_of_quiet quiet⟩
  · obtain ⟨t, run', idle⟩ := run.exists_idle
    exact run'.exists_observationPoint pins idle

end Sys2Proof.Machine
